-- ==== Sys2Proof/Word.lean ====
section
/-! DEFINITION. The word types of QRCORE: a host transaction and a command carry 16 bits (R60, R61, R80), a codeword or
field element 8 (R14). -/

namespace Sys2Proof

/-- The data and the address of a host transaction, and a command word (R60, R61, R80). -/
abbrev Word := BitVec 16

/-- A codeword, a field element, an opcode (R14, R80). -/
abbrev Byte := BitVec 8

end Sys2Proof
end

