-- ==== Sys2Proof/Config.lean ====
section
/-! DEFINITION. The implementation parameters of rule R5, the constants of R22 and R23, and the one free value of the
model: what an entry of a register file holds after a reset (R252). -/

namespace Sys2Proof.Config

/-- `SIZE`: modules per side of the matrix (R5, fixed). -/
def size : Nat := 21

/-- `TOTAL_BITS`: the length of the padded bit stream (R5; log 2). -/
def totalBits : Nat := 152

/-- `NSYM`: the number of ECC codewords of the fixed configuration (R5; log 2). -/
def nsym : Nat := 7

/-- `NDATA`: the number of data codewords, `TOTAL_BITS / 8` (R5; 90_conflicts.md C1). -/
def ndata : Nat := totalBits / 8

/-- `NCW`: the codewords placed in the matrix (R5). -/
def ncw : Nat := ndata + nsym

/-- `CW_BITS`: the bits placed in the matrix (R5). -/
def cwBits : Nat := 8 * ncw

/-- `POLY_MAX`: the entries of each of DCW, ECC, GEN, PA and PB (R5). -/
def polyMax : Nat := 32

/-- `GF_POLY`: x^8 + x^4 + x^3 + x^2 + 1 (R5). -/
def gfPoly : BitVec 9 := 0x11D

/-- `MODE_BYTE`: the 4-bit byte-mode indicator 0100 (R5, R150). -/
def modeByte : List Bool := [false, true, false, false]

/-- `PAD0`: the first pad codeword (R5). -/
def pad0 : Byte := 0xEC

/-- `PAD1`: the second pad codeword (R5). -/
def pad1 : Byte := 0x11

/-- `FMT_RESET`: the reset value of FMT (R5, R29, R251; log 3). -/
def fmtReset : Word := 0xF7C4

/-- What ID reads (R22). -/
def idValue : Word := 0x5152

/-- What REV reads (R22). -/
def revValue : Word := 0x0001

/-- What CFG0 reads: `TOTAL_BITS` (R23). -/
def cfg0Value : Word := BitVec.ofNat 16 totalBits

/-- What CFG1 reads: `NDATA` in bits 15:8, `NSYM` in bits 7:0 (R23). -/
def cfg1Value : Word := BitVec.ofNat 16 (ndata * 256 + nsym)

/-- THE FREE VALUE: the unspecified value that the location at a host address takes at a reset, as 16 bits of which an
entry of width N keeps its low N (R252).  The first argument numbers the resets, since the same location after different
resets need not hold the same value.  It has no body, so no proof can learn it (log 1). -/
opaque resetEntry : (epoch : Nat) → (address : Nat) → Word

end Sys2Proof.Config
end

