-- ==== Sys2Proof/Machine/Files.lean ====
section
/-! DEFINITION. The register files as fixed-length vectors: building one, reading an entry, reading leading entries and
writing a run of entries (R12, R32 to R38). -/

namespace Sys2Proof.Machine

/-- The file of `n` entries whose entry `k` is `f k`. -/
def tabulate {α : Type} (n : Nat) (f : Nat → α) : Vector α n :=
  ⟨((List.range n).map f).toArray, by simp⟩

/-- `X[i]` (R12: an index outside the file's range never occurs in a rule; the default is there for totality). -/
def entry {α : Type} [Inhabited α] {n : Nat} (x : Vector α n) (i : Nat) : α :=
  x.toList.getD i default

/-- `X[i] <- v` (R12: an index outside the file's range never occurs in a rule; it would change nothing). -/
def setEntry {α : Type} {n : Nat} (x : Vector α n) (i : Nat) (v : α) : Vector α n :=
  ⟨(x.toList.set i v).toArray, by simp⟩

/-- The sequence `X[0..len-1]` (R11, R12). -/
def leading {α : Type} {n : Nat} (x : Vector α n) (len : Nat) : List α :=
  x.toList.take len

/-- Entry `k` of the file becomes `f k` of what it was. -/
def mapEntries {α : Type} {n : Nat} (f : Nat → α → α) (x : Vector α n) : Vector α n :=
  ⟨(x.toList.zipIdx.map fun p => f p.2 p.1).toArray, by simp⟩

/-- `for k in 0..len(vs)-1: X[base + k] <- vs[k]`: entry `k` of the file becomes `vs[k - base]` where there is one, and
every other entry keeps its value. -/
def writeRun {α : Type} {n : Nat} (x : Vector α n) (base : Nat) (vs : List α) : Vector α n :=
  mapEntries (fun k old => if base ≤ k then vs.getD (k - base) old else old) x

end Sys2Proof.Machine
end

