-- ==== Sys2Proof/Machine/State.lean ====
section
/-! DEFINITION. The architectural state of QRCORE (R20), field for field, the model's own three fields beside it, the
transactions a host can make (R9, R12, R250), the outcomes of a rule (R224) and the state after reset (R251). -/

namespace Sys2Proof.Machine

/-- `STATUS.BSST`, the state of BS (R25): 3 never occurs. -/
inductive BitState where
  /-- 0: nothing valid. -/
  | empty
  /-- 1: mode, count and data (BSENC done). -/
  | raw
  /-- 2: BSPAD done. -/
  | padded
  deriving DecidableEq, Repr

/-- `ERR.CAUSE` (R220): codes 7 to 15 are never produced. -/
inductive Cause where
  /-- 0: no error pending. -/
  | none
  /-- 1: a payload entry above 255 (R221). -/
  | encoding
  /-- 2: the bit stream exceeds the symbol's capacity (R222). -/
  | capacity
  /-- 3: a mismatched codeword stream (R223). -/
  | length
  /-- 4: no command word (R225). -/
  | illegal
  /-- 5: a needed earlier result is absent (R226). -/
  | sequence
  /-- 6: a length or count outside what the files hold (R227). -/
  | operand
  deriving DecidableEq, Repr

/-- One cell of the module matrix (R38): its value (0 light, 1 dark), the reserved flag, the data-cell flag. -/
structure Cell where
  /-- `V`, bit 0 of the entry. -/
  v : Bool
  /-- `R`, bit 1 of the entry. -/
  r : Bool
  /-- `D`, bit 2 of the entry. -/
  d : Bool
  deriving DecidableEq, Repr, Inhabited

/-- What the outside world does to QRCORE (R9, R12, R250): it reads a location, writes a location (a write to CMD runs a
command), or pulls the reset input. -/
inductive Transaction where
  /-- `MemRead(a, 1)`. -/
  | read (a : Word)
  /-- `MemWrite(a, 1, v)`. -/
  | write (a v : Word)
  /-- The reset input `rst` (R250): it can occur between any two host transactions. -/
  | reset
  deriving DecidableEq, Repr

/-- The machine's state.  ID, REV, CFG0, CFG1 and CMD are control registers that store nothing (R22, R23, R26): their
constant reads are in `readReg`.  STATUS.BUSY and every bit above a register's width read 0 (R21, R25) and have no field. -/
structure State where
  /-- `CTRL` bit 0, done interrupt enable (R24). -/
  die : Bool
  /-- `CTRL` bit 1, error interrupt enable (R24). -/
  eie : Bool
  /-- `STATUS` bit 1 (R25). -/
  done : Bool
  /-- `STATUS` bit 2 (R25). -/
  err : Bool
  /-- `STATUS` bit 3: EXP and LOG hold the tables (R25). -/
  gfv : Bool
  /-- `STATUS` bits 5:4 (R25). -/
  bsst : BitState
  /-- `STATUS` bits 8:6, the last completed matrix stage (R25, R40). -/
  mxs : BitVec 3
  /-- `ERR` bits 3:0 (R27). -/
  cause : Cause
  /-- `ERR` bits 15:8 (R27). -/
  stage : Byte
  /-- `INFO` (R28). -/
  info : Word
  /-- `FMT` (R29). -/
  fmt : Word
  /-- `GFA` (R30). -/
  gfa : Byte
  /-- `GFB` (R30). -/
  gfb : Byte
  /-- `GFR` (R30). -/
  gfr : Byte
  /-- `PLEN` (R31). -/
  plen : BitVec 8
  /-- `BLEN` (R31). -/
  blen : BitVec 12
  /-- `DCWN` (R31). -/
  dcwn : BitVec 6
  /-- `ECCN` (R31). -/
  eccn : BitVec 6
  /-- `GENLEN` (R31). -/
  genlen : BitVec 6
  /-- `PALEN` (R31). -/
  palen : BitVec 6
  /-- `PBLEN` (R31). -/
  pblen : BitVec 6
  /-- `PRLEN` (R31). -/
  prlen : BitVec 6
  /-- `EXP[0..511]`, the exponent table (R32). -/
  exp : Vector Byte 512
  /-- `LOG[0..255]`, the logarithm table (R33). -/
  log : Vector Byte 256
  /-- `PAY[0..255]`, the payload characters, 9 bits each (R34). -/
  pay : Vector (BitVec 9) 256
  /-- `BS[0..2051]`, the bit stream (R35). -/
  bs : Vector Bool 2052
  /-- `DCW[0..31]`, the data codewords (R36). -/
  dcw : Vector Byte 32
  /-- `ECC[0..31]`, the ECC codewords (R36). -/
  ecc : Vector Byte 32
  /-- `GEN[0..31]`, the generator polynomial (R37). -/
  gen : Vector Byte 32
  /-- `PA[0..31]`, an operand polynomial (R37). -/
  pa : Vector Byte 32
  /-- `PB[0..31]`, an operand polynomial (R37). -/
  pb : Vector Byte 32
  /-- `PR[0..63]`, the result polynomial (R37). -/
  pr : Vector Byte 64
  /-- `MX[0..440]`, cell (r, c) at index 21 r + c (R38). -/
  mx : Vector Cell 441
  /-- THE MODEL'S OWN: the host transactions still to come, the next one first (R20 calls them a parameter of the step
  relation; log 4). -/
  script : List Transaction
  /-- THE MODEL'S OWN: the data that host reads have returned so far, the last one first (log 5). -/
  returned : List Word
  /-- THE MODEL'S OWN: how many resets the run has seen; it numbers the free contents of the files (log 1). -/
  resets : Nat
  deriving DecidableEq, Repr

/-- Why the machine stops.  QRCORE has no stuck state and no bus, address or alignment fault (R61, R63, R64, R84, R220), so
there is no fault: every error of R220 is a next state (R224). -/
inductive Fault where
  deriving DecidableEq, Repr

/-- Why an instruction has no meaning.  Nothing of QRCORE is refused. -/
inductive Refusal where
  /-- Raised only by an arm of `exec` whose instruction is not modelled yet (safe: no state follows).  No arm does. -/
  | notModelled (mnemonic : String)
  deriving DecidableEq, Repr

/-- What a `raise` records: the cause, the opcode of the raising command or sub-stage, and INFO (R224). -/
structure Raise where
  cause : Cause
  stage : Byte
  info : Word
  deriving DecidableEq, Repr

/-- How the pseudocode of a command's rule ends, without the frame of R81. -/
inductive Ran where
  /-- It ran to its end, in this state. -/
  | done (s : State)
  /-- It raised, in this state (R224: for a single command the state it started in; for ENCODE the state the completed
  sub-stages left). -/
  | raised (e : Raise) (s : State)
  deriving DecidableEq, Repr

/-- The cell held in the low three bits of an entry (R38). -/
def cellOf (w : Word) : Cell := ⟨w.getLsbD 0, w.getLsbD 1, w.getLsbD 2⟩

/-- The state right after reset number `epoch` (R250, R251): every register at its reset value, every entry of every file
at an unspecified value of its width, which is the free value of the entry's host address (R252, R62; log 1). -/
def State.afterReset (epoch : Nat) : State where
  die := false
  eie := false
  done := false
  err := false
  gfv := false
  bsst := .empty
  mxs := 0
  cause := .none
  stage := 0
  info := 0
  fmt := Config.fmtReset
  gfa := 0
  gfb := 0
  gfr := 0
  plen := 0
  blen := 0
  dcwn := 0
  eccn := 0
  genlen := 0
  palen := 0
  pblen := 0
  prlen := 0
  exp := tabulate 512 fun k => (Config.resetEntry epoch (0x0200 + k)).setWidth 8
  log := tabulate 256 fun k => (Config.resetEntry epoch (0x0400 + k)).setWidth 8
  pay := tabulate 256 fun k => (Config.resetEntry epoch (0x0500 + k)).setWidth 9
  bs := tabulate 2052 fun k => (Config.resetEntry epoch (0x1000 + k)).getLsbD 0
  dcw := tabulate 32 fun k => (Config.resetEntry epoch (0x0600 + k)).setWidth 8
  ecc := tabulate 32 fun k => (Config.resetEntry epoch (0x0620 + k)).setWidth 8
  gen := tabulate 32 fun k => (Config.resetEntry epoch (0x0640 + k)).setWidth 8
  pa := tabulate 32 fun k => (Config.resetEntry epoch (0x0680 + k)).setWidth 8
  pb := tabulate 32 fun k => (Config.resetEntry epoch (0x06A0 + k)).setWidth 8
  pr := tabulate 64 fun k => (Config.resetEntry epoch (0x06C0 + k)).setWidth 8
  mx := tabulate 441 fun k => cellOf (Config.resetEntry epoch (0x0800 + k))
  script := []
  returned := []
  resets := epoch

/-- The state after power-up, which is a reset (R250): nothing of the host's has happened yet. -/
def State.reset : State := State.afterReset 0

end Sys2Proof.Machine
end

