-- ==== Sys2Proof/Machine/Operands.lean ====
section
/-! DEFINITION. The operand forms of the commands: the sequences they read from the fixed registers and files (R73, R83),
and the conversion between bytes and bits, most significant bit first (R11, R66). -/

namespace Sys2Proof.Machine

/-- `msb8(v)`: the eight bits of a byte, most significant first (R11). -/
def msb8 (v : Byte) : List Bool := (List.range 8).map fun j => v.getLsbD (7 - j)

/-- `byte(b)`: the inverse of `msb8` on eight bits, `sum over j of b[j] << (7 - j)` (R11).  Bits past the eighth do not
occur in a rule and are dropped with the high bits. -/
def byteOf (b : List Bool) : Byte := BitVec.ofNat 8 (b.foldl (fun acc x => 2 * acc + if x then 1 else 0) 0)

/-- PMUL's and PDIV's first operand, `PA[0..PALEN-1]` (R122, R124). -/
def paOperand (s : State) : List Byte := leading s.pa s.palen.toNat

/-- PMUL's and PDIV's second operand, `PB[0..PBLEN-1]` (R122, R124). -/
def pbOperand (s : State) : List Byte := leading s.pb s.pblen.toNat

/-- The data codewords, `DCW[0..DCWN-1]` (R128, R178). -/
def dataOperand (s : State) : List Byte := leading s.dcw s.dcwn.toNat

/-- The generator, `GEN[0..GENLEN-1]` (R128). -/
def genOperand (s : State) : List Byte := leading s.gen s.genlen.toNat

/-- The ECC codewords, `ECC[0..ECCN-1]` (R178). -/
def eccOperand (s : State) : List Byte := leading s.ecc s.eccn.toNat

/-- The payload entries, `PAY[0..PLEN-1]` (R151). -/
def payOperand (s : State) : List (BitVec 9) := leading s.pay s.plen.toNat

/-- The raw bit stream, `BS[0..BLEN-1]` (R153). -/
def bitOperand (s : State) : List Bool := leading s.bs s.blen.toNat

/-- `cwbits()`: the data codewords then the ECC codewords, each most significant bit first (R178). -/
def cwbits (s : State) : List Bool := (dataOperand s ++ eccOperand s).flatMap msb8

end Sys2Proof.Machine
end

