-- ==== Sys2Proof/Syntax.lean ====
section
/-! DEFINITION. The nineteen commands of rule R82 (spec/opcode_table.json, row for row).  There are no register fields:
every command works on fixed registers and files (R80); the one immediate is RSGEN's count (R83). -/

namespace Sys2Proof

/-- A command of QRCORE (R82). -/
inductive Instr where
  /-- 0x0000, R200. -/
  | nop
  /-- 0x0100, R101. -/
  | gfbuild
  /-- 0x0200, R104. -/
  | gfmul
  /-- 0x1000, R122. -/
  | pmul
  /-- 0x1100, R124. -/
  | pdiv
  /-- 0x1200 + n, R126: `n` is the unsigned immediate (R83). -/
  | rsgen (n : Nat)
  /-- 0x1300, R128. -/
  | rsenc
  /-- 0x2000, R151. -/
  | bsenc
  /-- 0x2100, R153. -/
  | bspad
  /-- 0x2200, R155. -/
  | bssplit
  /-- 0x3000, R171. -/
  | mxinit
  /-- 0x3100, R172. -/
  | mxfind
  /-- 0x3200, R173. -/
  | mxtime
  /-- 0x3300, R174. -/
  | mxfrsv
  /-- 0x3400, R175. -/
  | mxplace
  /-- 0x3500, R176. -/
  | mxmask
  /-- 0x3600, R177. -/
  | mxfmt
  /-- 0x4000, R202. -/
  | encode
  /-- 0x7E00, R201. -/
  | clrerr
  deriving DecidableEq, Repr

end Sys2Proof
end

