-- ==== Sys2Proof/WellFormed.lean ====
section
/-! DEFINITION. Which commands have an encoding.  The one field is RSGEN's count, an unsigned 8-bit value (R83); a count
of 32 to 255 is well formed and raises OPERAND when it runs (R126). -/

namespace Sys2Proof

/-- The command's fields fit their encoding: RSGEN's `n` is in 0..255 (R83). -/
def Instr.wellFormed : Instr → Bool
  | .rsgen n => decide (n < 256)
  | .nop | .gfbuild | .gfmul | .pmul | .pdiv | .rsenc | .bsenc | .bspad | .bssplit | .mxinit | .mxfind | .mxtime
  | .mxfrsv | .mxplace | .mxmask | .mxfmt | .encode | .clrerr => true

/-- `Instr.wellFormed` as a proposition. -/
abbrev Instr.WellFormed (i : Instr) : Prop := i.wellFormed = true

end Sys2Proof
end

