-- ==== Sys2Proof/Decode.lean ====
section
/-! DEFINITION. The command decoder, total on every 16-bit word (R80 to R84), and the encoder.  There is one length and
one format, and a command word is one datum of one transaction, so there is no byte order of fetch (R66). -/

namespace Sys2Proof

/-- Why a word is no command (R84); both raise ILLEGAL (R225). -/
inductive DecodeReject where
  /-- `OPC` is not in the opcode map. -/
  | reservedOpcode (opc : Byte)
  /-- A `C0` command with `IMM` other than 0. -/
  | nonzeroImmediate (opc imm : Byte)
  deriving DecidableEq, Repr

/-- `OPC`, bits 15:8 (R80). -/
def opcOf (w : Word) : Byte := w.extractLsb' 8 8

/-- `IMM`, bits 7:0 (R80). -/
def immOf (w : Word) : Byte := w.extractLsb' 0 8

/-- The rows of sub-format C0 by their `OPC` column (R82). -/
def c0Rows : List (Byte × Instr) :=
  [(0x00, .nop), (0x01, .gfbuild), (0x02, .gfmul),
   (0x10, .pmul), (0x11, .pdiv), (0x13, .rsenc),
   (0x20, .bsenc), (0x21, .bspad), (0x22, .bssplit),
   (0x30, .mxinit), (0x31, .mxfind), (0x32, .mxtime), (0x33, .mxfrsv), (0x34, .mxplace), (0x35, .mxmask), (0x36, .mxfmt),
   (0x40, .encode), (0x7E, .clrerr)]

/-- Decode a command word (R81 to R84): RSGEN is the one C1 row and takes any immediate; a C0 row takes only 0; every
other word is rejected by name. -/
def decode (w : Word) : Except DecodeReject Instr :=
  if opcOf w = 0x12 then .ok (.rsgen (immOf w).toNat)
  else
    match c0Rows.lookup (opcOf w) with
    | some i => if immOf w = 0 then .ok i else .error (.nonzeroImmediate (opcOf w) (immOf w))
    | none => .error (.reservedOpcode (opcOf w))

/-- Encode a command: the `match` column of R82, with RSGEN's count in bits 7:0 (R83).  Of an RSGEN that is not well
formed only the low eight bits of the count stand in the word. -/
def encode : Instr → Word
  | .nop => 0x0000
  | .gfbuild => 0x0100
  | .gfmul => 0x0200
  | .pmul => 0x1000
  | .pdiv => 0x1100
  | .rsgen n => 0x1200 ||| (BitVec.ofNat 8 n).setWidth 16
  | .rsenc => 0x1300
  | .bsenc => 0x2000
  | .bspad => 0x2100
  | .bssplit => 0x2200
  | .mxinit => 0x3000
  | .mxfind => 0x3100
  | .mxtime => 0x3200
  | .mxfrsv => 0x3300
  | .mxplace => 0x3400
  | .mxmask => 0x3500
  | .mxfmt => 0x3600
  | .encode => 0x4000
  | .clrerr => 0x7E00

/-- The opcode of a command: what `ERR.STAGE` records (R27, R82). -/
def opcode (i : Instr) : Byte := opcOf (encode i)

/-- The command word that the opcode table's numbering calls `w` in `nbits` bits: bits at and above `nbits` are 0. -/
def tableWord (nbits w : Nat) : Word := BitVec.ofNat 16 (w % 2 ^ nbits)

/-- What the decoder reads from a word numbered as spec/opcode_table.json numbers it. -/
def decodeTableWord (nbits w : Nat) : Option Instr :=
  match decode (tableWord nbits w) with
  | .ok i => some i
  | .error _ => none

end Sys2Proof
end

