-- ==== Sys2Proof/Machine/Flags.lean ====
section
/-! DEFINITION. The flags of QRCORE: there are no arithmetic condition codes (R39), only the fields of STATUS, CTRL and ERR
(R24, R25, R27), the words the host reads them in, and the interrupt line computed from them (R230). -/

namespace Sys2Proof.Machine

/-- A flag as an unsigned value. -/
def bit (b : Bool) : Nat := if b then 1 else 0

/-- The code of BSST (R25). -/
def BitState.code : BitState → Nat
  | .empty => 0
  | .raw => 1
  | .padded => 2

/-- The code of a cause (R220). -/
def Cause.code : Cause → Nat
  | .none => 0
  | .encoding => 1
  | .capacity => 2
  | .length => 3
  | .illegal => 4
  | .sequence => 5
  | .operand => 6

/-- What CTRL reads: DIE in bit 0, EIE in bit 1 (R24). -/
def ctrlWord (s : State) : Word := BitVec.ofNat 16 (bit s.die + 2 * bit s.eie)

/-- What STATUS reads (R25): BUSY (bit 0) and bits 15:9 read 0. -/
def statusWord (s : State) : Word :=
  BitVec.ofNat 16 (2 * bit s.done + 4 * bit s.err + 8 * bit s.gfv + 16 * s.bsst.code + 64 * s.mxs.toNat)

/-- What ERR reads: CAUSE in bits 3:0, 0 in bits 7:4, STAGE in bits 15:8 (R27). -/
def errWord (s : State) : Word := BitVec.ofNat 16 (256 * s.stage.toNat + s.cause.code)

/-- What an MX location reads: V in bit 0, R in bit 1, D in bit 2 (R38). -/
def cellWord (c : Cell) : Word := BitVec.ofNat 16 (bit c.v + 2 * bit c.r + 4 * bit c.d)

/-- The interrupt output (R230): a function of state that feeds nothing back. -/
def irq (s : State) : Bool := (s.done && s.die) || (s.err && s.eie)

end Sys2Proof.Machine
end

