-- ==== Sys2Proof/Machine/Ops.lean ====
section
/-! DEFINITION. The shared operations of QRCORE: the host's view of the state as 65536 locations (R60 to R65), the updates the
commands make, error entry and the return from it (R224, R231), the frame of a command (R81) and the reset (R250). -/

namespace Sys2Proof.Machine

/-! ### The address map (R21, R62) -/

/-- The 21 control, general and length registers (R21). -/
inductive Reg where
  | id | rev | cfg0 | cfg1 | ctrl | status | cmd | err | info | fmt | gfa | gfb | gfr
  | plen | blen | dcwn | eccn | genlen | palen | pblen | prlen
  deriving DecidableEq, Repr

/-- What a host address names (R60, R62): a register, one entry of one file, or nothing. -/
inductive Location where
  | reg (r : Reg)
  | exp (k : Fin 512)
  | log (k : Fin 256)
  | pay (k : Fin 256)
  | dcw (k : Fin 32)
  | ecc (k : Fin 32)
  | gen (k : Fin 32)
  | pa (k : Fin 32)
  | pb (k : Fin 32)
  | pr (k : Fin 64)
  | mx (k : Fin 441)
  | bs (k : Fin 2052)
  | unmapped
  deriving DecidableEq, Repr

/-- The registers in the order of their addresses 0x0000 to 0x0014 (R21). -/
def regsInOrder : List Reg :=
  [.id, .rev, .cfg0, .cfg1, .ctrl, .status, .cmd, .err, .info, .fmt, .gfa, .gfb, .gfr,
   .plen, .blen, .dcwn, .eccn, .genlen, .palen, .pblen, .prlen]

/-- The address of CMD (R26). -/
def cmdAddress : Word := 0x0006

/-- The address map of R62; every host address is used as it is (R72). -/
def locate (a : Word) : Location :=
  let n := a.toNat
  if n ≤ 0x0014 then .reg (regsInOrder.getD n .id)
  else if h : 0x0200 ≤ n ∧ n ≤ 0x03FF then .exp ⟨n - 0x0200, by omega⟩
  else if h : 0x0400 ≤ n ∧ n ≤ 0x04FF then .log ⟨n - 0x0400, by omega⟩
  else if h : 0x0500 ≤ n ∧ n ≤ 0x05FF then .pay ⟨n - 0x0500, by omega⟩
  else if h : 0x0600 ≤ n ∧ n ≤ 0x061F then .dcw ⟨n - 0x0600, by omega⟩
  else if h : 0x0620 ≤ n ∧ n ≤ 0x063F then .ecc ⟨n - 0x0620, by omega⟩
  else if h : 0x0640 ≤ n ∧ n ≤ 0x065F then .gen ⟨n - 0x0640, by omega⟩
  else if h : 0x0680 ≤ n ∧ n ≤ 0x069F then .pa ⟨n - 0x0680, by omega⟩
  else if h : 0x06A0 ≤ n ∧ n ≤ 0x06BF then .pb ⟨n - 0x06A0, by omega⟩
  else if h : 0x06C0 ≤ n ∧ n ≤ 0x06FF then .pr ⟨n - 0x06C0, by omega⟩
  else if h : 0x0800 ≤ n ∧ n ≤ 0x09B8 then .mx ⟨n - 0x0800, by omega⟩
  else if h : 0x1000 ≤ n ∧ n ≤ 0x1803 then .bs ⟨n - 0x1000, by omega⟩
  else .unmapped

/-! ### Host reads and writes (R63, R64) -/

/-- What a register reads, zero-extended (R21 to R31, R63): ID, REV, CFG0 and CFG1 are constants, CMD reads 0. -/
def readReg (s : State) : Reg → Word
  | .id => Config.idValue
  | .rev => Config.revValue
  | .cfg0 => Config.cfg0Value
  | .cfg1 => Config.cfg1Value
  | .ctrl => ctrlWord s
  | .status => statusWord s
  | .cmd => 0
  | .err => errWord s
  | .info => s.info
  | .fmt => s.fmt
  | .gfa => s.gfa.setWidth 16
  | .gfb => s.gfb.setWidth 16
  | .gfr => s.gfr.setWidth 16
  | .plen => s.plen.setWidth 16
  | .blen => s.blen.setWidth 16
  | .dcwn => s.dcwn.setWidth 16
  | .eccn => s.eccn.setWidth 16
  | .genlen => s.genlen.setWidth 16
  | .palen => s.palen.setWidth 16
  | .pblen => s.pblen.setWidth 16
  | .prlen => s.prlen.setWidth 16

/-- What a location reads: the entry zero-extended; 0 where nothing is mapped (R63). -/
def readLocation (s : State) : Location → Word
  | .reg r => readReg s r
  | .exp k => s.exp[k].setWidth 16
  | .log k => s.log[k].setWidth 16
  | .pay k => s.pay[k].setWidth 16
  | .dcw k => s.dcw[k].setWidth 16
  | .ecc k => s.ecc[k].setWidth 16
  | .gen k => s.gen[k].setWidth 16
  | .pa k => s.pa[k].setWidth 16
  | .pb k => s.pb[k].setWidth 16
  | .pr k => s.pr[k].setWidth 16
  | .mx k => cellWord s.mx[k]
  | .bs k => BitVec.ofNat 16 (bit s.bs[k])
  | .unmapped => 0

/-- `MemRead(a, 1)` (R63).  It is a function of the state: no location has a read side effect. -/
def memRead (s : State) (a : Word) : Word := readLocation s (locate a)

/-- A host write to a register other than CMD (R21, R24, R25, R64): the low bits of the width, DONE cleared by a 1 in bit 1 of a
write to STATUS, nothing for a read-only register. -/
def writeReg (s : State) (v : Word) : Reg → State
  | .ctrl => { s with die := v.getLsbD 0, eie := v.getLsbD 1 }
  | .status => { s with done := s.done && !v.getLsbD 1 }
  | .fmt => { s with fmt := v }
  | .gfa => { s with gfa := v.setWidth 8 }
  | .gfb => { s with gfb := v.setWidth 8 }
  | .plen => { s with plen := v.setWidth 8 }
  | .dcwn => { s with dcwn := v.setWidth 6 }
  | .palen => { s with palen := v.setWidth 6 }
  | .pblen => { s with pblen := v.setWidth 6 }
  | .id | .rev | .cfg0 | .cfg1 | .cmd | .err | .info | .gfr | .blen | .eccn | .genlen | .prlen => s

/-- A host write to a location that is not CMD (R64, R65): a writable entry takes the low bits of its width; a read-only or
unmapped location ignores the write.  It changes no flag and invalidates nothing. -/
def writeLocation (s : State) (v : Word) : Location → State
  | .reg r => writeReg s v r
  | .pay k => { s with pay := s.pay.set k (v.setWidth 9) }
  | .dcw k => { s with dcw := s.dcw.set k (v.setWidth 8) }
  | .pa k => { s with pa := s.pa.set k (v.setWidth 8) }
  | .pb k => { s with pb := s.pb.set k (v.setWidth 8) }
  | .exp _ | .log _ | .ecc _ | .gen _ | .pr _ | .mx _ | .bs _ | .unmapped => s

/-- `MemWrite(a, 1, v)` for an address that is not CMD's (R64). -/
def memWrite (s : State) (a v : Word) : State := writeLocation s v (locate a)

/-! ### The updates the commands make -/

/-- `STATUS.DONE <- b` (R81). -/
def State.setDone (s : State) (b : Bool) : State := { s with done := b }

/-- GFBUILD's writes (R101): the tables, and GFV. -/
def State.setTables (s : State) (exp : Vector Byte 512) (log : Vector Byte 256) : State :=
  { s with exp := exp, log := log, gfv := true }

/-- GFMUL's write (R104). -/
def State.setProduct (s : State) (r : Byte) : State := { s with gfr := r }

/-- PMUL's and PDIV's writes (R122, R124): `PR[0..] <- r`, `PRLEN <- len`. -/
def State.setResult (s : State) (r : List Byte) (len : Nat) : State :=
  { s with pr := writeRun s.pr 0 r, prlen := BitVec.ofNat 6 len }

/-- RSGEN's writes (R126): `GEN[0..] <- g`, `GENLEN <- len`. -/
def State.setGenerator (s : State) (g : List Byte) (len : Nat) : State :=
  { s with gen := writeRun s.gen 0 g, genlen := BitVec.ofNat 6 len }

/-- RSENC's writes (R128): `ECC[0..] <- r`, `ECCN <- len`. -/
def State.setEcc (s : State) (r : List Byte) (len : Nat) : State :=
  { s with ecc := writeRun s.ecc 0 r, eccn := BitVec.ofNat 6 len }

/-- BSENC's and BSPAD's writes (R151, R153): bits from index `base` on, then BLEN and BSST. -/
def State.setBits (s : State) (base : Nat) (b : List Bool) (blen : Nat) (bsst : BitState) : State :=
  { s with bs := writeRun s.bs base b, blen := BitVec.ofNat 12 blen, bsst := bsst }

/-- BSSPLIT's writes (R155): `DCW[0..] <- d`, `DCWN <- len`. -/
def State.setData (s : State) (d : List Byte) (len : Nat) : State :=
  { s with dcw := writeRun s.dcw 0 d, dcwn := BitVec.ofNat 6 len }

/-- A matrix stage's writes (R170): the matrix, and `MXS <- stage`. -/
def State.setMatrix (s : State) (mx : Vector Cell 441) (stage : BitVec 3) : State := { s with mx := mx, mxs := stage }

/-- The host takes the next transaction from its sequence (R9). -/
def State.setScript (s : State) (script : List Transaction) : State := { s with script := script }

/-- A host read has returned `v` (R63). -/
def State.pushReturned (s : State) (v : Word) : State := { s with returned := v :: s.returned }

/-! ### Errors (R220 to R232) -/

/-- ERROR ENTRY, the machine's exception entry (R224): ERR, INFO and STATUS.ERR are written and DONE stays 0; nothing else is
saved, there is no mode to change and no vector to go to. -/
def State.enterError (s : State) (e : Raise) : State :=
  { s with cause := e.cause, stage := e.stage, info := e.info, err := true, done := false }

/-- THE RETURN FROM AN ERROR (R201, R231): ERR, INFO and STATUS.ERR are cleared; nothing else is restored. -/
def State.clearError (s : State) : State := { s with cause := .none, stage := 0, info := 0, err := false }

/-- `ILLEGAL(w)`: the stage recorded is the word's `OPC` (R225). -/
def Raise.ofIllegal (w : Word) : Raise := ⟨.illegal, opcOf w, w⟩

/-- `SEQUENCE(code)` raised by the rule of command `i` (R226). -/
def Raise.ofSequence (i : Instr) (code : Word) : Raise := ⟨.sequence, opcode i, code⟩

/-- `OPERAND(code)` raised by the rule of command `i` (R227). -/
def Raise.ofOperand (i : Instr) (code : Word) : Raise := ⟨.operand, opcode i, code⟩

/-- `ENCODING(k)` raised by the rule of command `i` (R221). -/
def Raise.ofEncoding (i : Instr) (k : Nat) : Raise := ⟨.encoding, opcode i, BitVec.ofNat 16 k⟩

/-- `CAPACITY(len)` raised by the rule of command `i` (R222). -/
def Raise.ofCapacity (i : Instr) (len : Nat) : Raise := ⟨.capacity, opcode i, BitVec.ofNat 16 len⟩

/-- `LENGTH(len)` raised by the rule of command `i` (R223). -/
def Raise.ofLength (i : Instr) (len : Nat) : Raise := ⟨.length, opcode i, BitVec.ofNat 16 len⟩

/-! ### Running a command -/

/-- `require ok else raise e`, then the rest of the rule (R12). -/
@[inline] def require (ok : Bool) (e : Raise) (s : State) (rest : Ran) : Ran := if ok then rest else .raised e s

/-- `run X` one after another; a `raise` in one ends the whole (R202). -/
def runStages : List (State → Ran) → State → Ran
  | [], s => .done s
  | body :: bodies, s =>
    match body s with
    | .done t => runStages bodies t
    | .raised e t => .raised e t

/-- THE FRAME OF A COMMAND (R81): while an error is pending only CLRERR is accepted and every other command is ignored
(R232); an accepted command clears DONE, runs its rule, and then sets DONE or enters the error it raised. -/
def runCommand (isClrerr : Bool) (body : State → Ran) (s : State) : Host.Outcome State Fault Refusal :=
  if s.err && !isClrerr then .next s
  else
    match body (s.setDone false) with
    | .done t => .next (t.setDone true)
    | .raised e t => .next (t.enterError e)

/-- A command word that decodes to nothing: the frame raises ILLEGAL before any rule runs (R81, R225). -/
def execIllegal (w : Word) (s : State) : Host.Outcome State Fault Refusal :=
  runCommand false (fun t => .raised (Raise.ofIllegal w) t) s

/-! ### Reset (R250) -/

/-- The reset input: every register takes its reset value and every file entry an unspecified one, a new one for each reset
(R250 to R252).  The host's own sequence and what it has read are not QRCORE's and stay. -/
def resetMachine (s : State) : State :=
  { State.afterReset (s.resets + 1) with script := s.script, returned := s.returned }

end Sys2Proof.Machine
end

