-- ==== Sys2Proof/Machine/BitStream.lean ====
section
/-! DEFINITION. The bit-stream formatter: BSENC, BSPAD and BSSPLIT (43_bit_stream.md). -/

namespace Sys2Proof.Machine

/-- The raw bit stream of a payload (R150, R151): the mode indicator, the 8-bit count, eight bits for each payload entry. -/
def rawBits (plen : BitVec 8) (payload : List (BitVec 9)) : List Bool :=
  Config.modeByte ++ msb8 plen ++ payload.flatMap fun p => msb8 (p.setWidth 8)

/-- The lowest index whose payload entry is above 255 (R151, R221). -/
def firstUnrepresentable (payload : List (BitVec 9)) : Option Nat :=
  payload.findIdx? fun p => decide (255 < p.toNat)

/-- BSENC's rule (R151): every entry is checked before any bit is written. -/
def bodyBsenc (s : State) : Ran :=
  match firstUnrepresentable (payOperand s) with
  | some i => .raised (Raise.ofEncoding .bsenc i) s
  | none => .done (s.setBits 0 (rawBits s.plen (payOperand s)) (12 + 8 * s.plen.toNat) .raw)

/-- BSENC (R151). -/
def execBsenc (s : State) : Host.Outcome State Fault Refusal := runCommand false bodyBsenc s

/-- The alternating pad codewords, the first one first, `n` of them (R152). -/
def padCodewords (n : Nat) : List Bool :=
  (List.range n).flatMap fun k => msb8 (if k % 2 = 0 then Config.pad0 else Config.pad1)

/-- `pad(s, total)` (R152): a terminator of `min(4, total - len)` zeros, zeros to a multiple of 8, then pad codewords for as
long as the stream is shorter than `total`. -/
def pad (b : List Bool) (total : Nat) : List Bool :=
  let terminated := b ++ List.replicate (min 4 (total - b.length)) false
  let filled := terminated ++ List.replicate ((8 - terminated.length % 8) % 8) false
  filled ++ padCodewords ((total - filled.length + 7) / 8)

/-- BSPAD's rule (R153): a stream too long is refused before anything is written, and no bit of it is changed. -/
def bodyBspad (s : State) : Ran :=
  require (s.bsst == .raw) (Raise.ofSequence .bspad 0x0002) s <|
  require (decide (s.blen.toNat ≤ Config.totalBits)) (Raise.ofCapacity .bspad s.blen.toNat) s <|
    .done (s.setBits s.blen.toNat ((pad (bitOperand s) Config.totalBits).drop s.blen.toNat) Config.totalBits .padded)

/-- BSPAD (R153). -/
def execBspad (s : State) : Host.Outcome State Fault Refusal := runCommand false bodyBspad s

/-- `byte(BS[8k .. 8k+7])` for k = 0..n-1 (R155). -/
def splitCodewords (b : List Bool) (n : Nat) : List Byte :=
  (List.range n).map fun k => byteOf ((b.drop (8 * k)).take 8)

/-- BSSPLIT's rule (R155). -/
def bodyBssplit (s : State) : Ran :=
  require (s.bsst == .padded) (Raise.ofSequence .bssplit 0x0002) s <|
    .done (s.setData (splitCodewords (leading s.bs Config.totalBits) Config.ndata) Config.ndata)

/-- BSSPLIT (R155). -/
def execBssplit (s : State) : Host.Outcome State Fault Refusal := runCommand false bodyBssplit s

end Sys2Proof.Machine
end

