-- ==== Sys2Proof/Machine/Matrix.lean ====
section
/-! DEFINITION. The symbol matrix builder: MXINIT, MXFIND, MXTIME, MXFRSV, MXPLACE, MXMASK and MXFMT (44_matrix_builder.md).
A stage is written as what it does to the cell in row `r` and column `c`; MXPLACE walks the matrix in its order. -/

namespace Sys2Proof.Machine

/-- The index of cell (r, c) in MX (R38). -/
def cellIndex (r c : Nat) : Nat := Config.size * r + c

/-- Apply `f` to every cell, given its row and its column (R15, R38). -/
def mapCells (f : Nat → Nat → Cell → Cell) (mx : Vector Cell 441) : Vector Cell 441 :=
  mapEntries (fun k x => f (k / Config.size) (k % Config.size) x) mx

/-- The guard of stage `stage`, raised by command `i`: the stage before it was the last completed one (R170). -/
def requireStage (stage : BitVec 3) (i : Instr) (s : State) (rest : Ran) : Ran :=
  require (s.mxs == stage - 1) (Raise.ofSequence i 0x0003) s rest

/-! ### Stage 1 -/

/-- MXINIT's rule (R171): it is accepted at any stage. -/
def bodyMxinit (s : State) : Ran := .done (s.setMatrix (mapCells (fun _ _ _ => ⟨false, false, false⟩) s.mx) 1)

/-- MXINIT (R171). -/
def execMxinit (s : State) : Host.Outcome State Fault Refusal := runCommand false bodyMxinit s

/-! ### Stage 2 -/

/-- The origins of the three finder patterns (R172). -/
def finderOrigins : List (Int × Int) := [(0, 0), (14, 0), (0, 14)]

/-- The value of the cell at offset (dr, dc) from a finder's origin: dark on the ring and in the core, light inside between
them and on the separator; no value outside -1..7 (R172). -/
def finderOffset (dr dc : Int) : Option Bool :=
  if -1 ≤ dr ∧ dr ≤ 7 ∧ -1 ≤ dc ∧ dc ≤ 7 then
    if 0 ≤ dr ∧ dr ≤ 6 ∧ 0 ≤ dc ∧ dc ≤ 6 then
      some (decide (dr = 0 ∨ dr = 6 ∨ dc = 0 ∨ dc = 6) || decide (2 ≤ dr ∧ dr ≤ 4 ∧ 2 ≤ dc ∧ dc ≤ 4))
    else some false
  else none

/-- What MXFIND writes to V in cell (r, c), if it writes the cell (R172). -/
def finderValue (r c : Nat) : Option Bool := finderOrigins.findSome? fun o => finderOffset ((r : Int) - o.1) ((c : Int) - o.2)

/-- MXFIND on one cell (R172): D is not written. -/
def findCell (r c : Nat) (x : Cell) : Cell :=
  match finderValue r c with
  | some v => { x with v := v, r := true }
  | none => x

/-- MXFIND's rule (R172). -/
def bodyMxfind (s : State) : Ran := requireStage 2 .mxfind s <| .done (s.setMatrix (mapCells findCell s.mx) 2)

/-- MXFIND (R172). -/
def execMxfind (s : State) : Host.Outcome State Fault Refusal := runCommand false bodyMxfind s

/-! ### Stage 3 -/

/-- The indices a timing line spans: [8, SIZE - 8) (R173). -/
def timingIndex (i : Nat) : Bool := decide (8 ≤ i ∧ i < Config.size - 8)

/-- What MXTIME writes to V in cell (r, c), if it writes the cell: `(index + 1) mod 2` on row 6 and on column 6 (R173). -/
def timingValue (r c : Nat) : Option Bool :=
  if r = 6 ∧ timingIndex c then some (decide ((c + 1) % 2 = 1))
  else if c = 6 ∧ timingIndex r then some (decide ((r + 1) % 2 = 1))
  else none

/-- MXTIME on one cell (R173). -/
def timeCell (r c : Nat) (x : Cell) : Cell :=
  match timingValue r c with
  | some v => { x with v := v, r := true }
  | none => x

/-- MXTIME's rule (R173). -/
def bodyMxtime (s : State) : Ran := requireStage 3 .mxtime s <| .done (s.setMatrix (mapCells timeCell s.mx) 3)

/-- MXTIME (R173). -/
def execMxtime (s : State) : Host.Outcome State Fault Refusal := runCommand false bodyMxtime s

/-! ### Stage 4 -/

/-- The cells MXFRSV reserves (R174): row 8 and column 8 by the top-left finder, the last eight rows of column 8, the last
eight columns of row 8. -/
def formatArea (r c : Nat) : Bool :=
  decide ((r = 8 ∧ c ≤ 8 ∧ c ≠ 6) ∨ (c = 8 ∧ r ≤ 8 ∧ r ≠ 6) ∨ (c = 8 ∧ 13 ≤ r ∧ r ≤ 20) ∨ (r = 8 ∧ 13 ≤ c ∧ c ≤ 20))

/-- MXFRSV on one cell (R174): V is not written. -/
def reserveCell (r c : Nat) (x : Cell) : Cell := if formatArea r c then { x with r := true } else x

/-- MXFRSV's rule (R174). -/
def bodyMxfrsv (s : State) : Ran := requireStage 4 .mxfrsv s <| .done (s.setMatrix (mapCells reserveCell s.mx) 4)

/-- MXFRSV (R174). -/
def execMxfrsv (s : State) : Host.Outcome State Fault Refusal := runCommand false bodyMxfrsv s

/-! ### Stage 5 -/

/-- The right columns of the ten column pairs in their order, each with its direction, up first and then alternating; the pair
after (8, 7) is (5, 4), column 6 being passed over (R175). -/
def columnPairs : List (Nat × Bool) :=
  [(20, true), (18, false), (16, true), (14, false), (12, true), (10, false), (8, true), (5, false), (3, true), (1, false)]

/-- The cells of one column pair in the order of the walk: row by row, the right column first (R175). -/
def walkPair (pair : Nat × Bool) : List (Nat × Nat) :=
  (List.range Config.size).flatMap fun t =>
    let r := if pair.2 then 20 - t else t
    [(r, pair.1), (r, pair.1 - 1)]

/-- The whole walk of MXPLACE (R175). -/
def zigzag : List (Nat × Nat) := columnPairs.flatMap walkPair

/-- The cells of the walk that are not reserved when the walk begins, in its order, as indices into MX: the cells MXPLACE writes.
The walk visits a cell once, so that the R it sets decides nothing later in the walk (R175). -/
def freeCells (mx : Vector Cell 441) : List Nat :=
  (zigzag.map fun rc => cellIndex rc.1 rc.2).filter fun k => !(entry mx k).r

/-- The matrix after the walk (R175): unreserved cell number `j` takes bit `j` of the stream (0 when the bits are exhausted) and
becomes a reserved data cell; reserved cells are passed over.  (The literal loop of R175 gives the same matrix:
`placeBits_eq_loop`.) -/
def placeBits (stream : List Bool) (mx : Vector Cell 441) : Vector Cell 441 :=
  let free := freeCells mx
  mapEntries (fun k x =>
    match free.idxOf? k with
    | some j => ⟨stream.getD j false, true, true⟩
    | none => x) mx

/-- The length of the codeword bit stream, `8 * (DCWN + ECCN)` (R178). -/
def streamLength (s : State) : Nat := 8 * (s.dcwn.toNat + s.eccn.toNat)

/-- MXPLACE's rule (R175): SEQUENCE before LENGTH. -/
def bodyMxplace (s : State) : Ran :=
  requireStage 5 .mxplace s <|
  require (decide (streamLength s = Config.cwBits)) (Raise.ofLength .mxplace (streamLength s)) s <|
    .done (s.setMatrix (placeBits (cwbits s) s.mx) 5)

/-- MXPLACE (R175). -/
def execMxplace (s : State) : Host.Outcome State Fault Refusal := runCommand false bodyMxplace s

/-! ### Stage 6 -/

/-- MXMASK on one cell (R176): a data cell is flipped where `(r + c) mod 2 == 0`. -/
def maskCell (r c : Nat) (x : Cell) : Cell := if x.d && decide ((r + c) % 2 = 0) then { x with v := !x.v } else x

/-- MXMASK's rule (R176). -/
def bodyMxmask (s : State) : Ran := requireStage 6 .mxmask s <| .done (s.setMatrix (mapCells maskCell s.mx) 6)

/-- MXMASK (R176). -/
def execMxmask (s : State) : Host.Outcome State Fault Refusal := runCommand false bodyMxmask s

/-! ### Stage 7 -/

/-- The bit of FMT that MXFMT writes to cell (r, c), if it writes the cell (R177): the group by the top-left finder, the group
split across the other two, and the cell (13, 8). -/
def formatBit (r c : Nat) : Option Nat :=
  if c = 8 ∧ r ≤ 5 then some r
  else if c = 8 ∧ r = 7 then some 6
  else if c = 8 ∧ r = 8 then some 7
  else if r = 8 ∧ c = 7 then some 8
  else if r = 8 ∧ c ≤ 5 then some (14 - c)
  else if r = 8 ∧ 13 ≤ c ∧ c ≤ 20 then some (20 - c)
  else if c = 8 ∧ 14 ≤ r ∧ r ≤ 20 then some (r - 6)
  else if r = 13 ∧ c = 8 then some 15
  else none

/-- MXFMT on one cell (R177): R and D are not written. -/
def formatCell (fmt : Word) (r c : Nat) (x : Cell) : Cell :=
  match formatBit r c with
  | some i => { x with v := fmt.getLsbD i }
  | none => x

/-- MXFMT's rule (R177). -/
def bodyMxfmt (s : State) : Ran := requireStage 7 .mxfmt s <| .done (s.setMatrix (mapCells (formatCell s.fmt) s.mx) 7)

/-- MXFMT (R177). -/
def execMxfmt (s : State) : Host.Outcome State Fault Refusal := runCommand false bodyMxfmt s

end Sys2Proof.Machine
end

