-- ==== Sys2Proof/Machine/Gf.lean ====
section
/-! DEFINITION. The GF(2^8) table generator and multiplier: GFBUILD and GFMUL (41_gf_engine.md). -/

namespace Sys2Proof.Machine

/-- One reduction step of R101: `x <- x << 1; if bit 8 of x is set: x <- x ^ 0x11D`. -/
def gfDouble (x : BitVec 9) : BitVec 9 :=
  let y := x <<< 1
  if y.getLsbD 8 then y ^^^ Config.gfPoly else y

/-- The values `x` takes at the top of `n` iterations of R101's first loop, from `x` on. -/
def gfPowers : (n : Nat) → (x : BitVec 9) → List (BitVec 9)
  | 0, _ => []
  | n + 1, x => x :: gfPowers n (gfDouble x)

/-- EXP after R101: `EXP[i] <- x` in iteration i of 0..254, then `EXP[i] <- EXP[i - 255]` for i in 255..509. -/
def buildExp (exp : Vector Byte 512) : Vector Byte 512 :=
  let filled := writeRun exp 0 ((gfPowers 255 1).map fun x => x.setWidth 8)
  writeRun filled 255 (leading filled 255)

/-- LOG after R101: `LOG[x] <- i` in iteration i, for the one iteration whose `x` is the entry's index; an entry whose index is no
`x` is kept.  (The literal loop of R101 gives the same tables: `buildTables_eq_loop`.) -/
def buildLog (log : Vector Byte 256) : Vector Byte 256 :=
  mapEntries (fun a old =>
    match (gfPowers 255 1).findIdx? fun x => x.toNat == a with
    | some i => BitVec.ofNat 8 i
    | none => old) log

/-- GFBUILD's rule (R101). -/
def bodyGfbuild (s : State) : Ran := .done (s.setTables (buildExp s.exp) (buildLog s.log))

/-- GFBUILD (R101): it needs no flag and raises nothing. -/
def execGfbuild (s : State) : Host.Outcome State Fault Refusal := runCommand false bodyGfbuild s

/-- `gf_mul(a, b)` (R103): a zero operand gives 0 without a look-up. -/
def gfMul (exp : Vector Byte 512) (log : Vector Byte 256) (a b : Byte) : Byte :=
  if a = 0 ∨ b = 0 then 0 else entry exp ((entry log a.toNat).toNat + (entry log b.toNat).toNat)

/-- GFMUL's rule (R104). -/
def bodyGfmul (s : State) : Ran :=
  require s.gfv (Raise.ofSequence .gfmul 0x0001) s <|
    .done (s.setProduct (gfMul s.exp s.log s.gfa s.gfb))

/-- GFMUL (R104). -/
def execGfmul (s : State) : Host.Outcome State Fault Refusal := runCommand false bodyGfmul s

end Sys2Proof.Machine
end

