-- ==== Sys2Proof/Machine/ReedSolomon.lean ====
section
/-! DEFINITION. The Reed-Solomon polynomial multiplier and divider: PMUL, PDIV, RSGEN and RSENC (42_reed_solomon.md).  A
polynomial is a list of field elements, the highest power first (R14, R120). -/

namespace Sys2Proof.Machine

/-- Coefficient `k` of the product (R121): the exclusive or of the field products `p[i] * q[j]` of the pairs with `i + j = k`. -/
def productAt (mul : Byte → Byte → Byte) (p q : List Byte) (k : Nat) : Byte :=
  (List.range p.length).foldl (fun acc i =>
    if i ≤ k ∧ k - i < q.length then acc ^^^ mul (p.getD i 0) (q.getD (k - i) 0) else acc) 0

/-- `pmul(p, q)` (R121): the full convolution, of length `lp + lq - 1`. -/
def pmul (mul : Byte → Byte → Byte) (p q : List Byte) : List Byte :=
  (List.range (p.length + q.length - 1)).map (productAt mul p q)

/-- One position of the division (R123): if the coefficient at `i` is not 0, exclusive-or the divisor scaled by it into the
buffer from `i` on, skipping zero divisor terms. -/
def divideAt (mul : Byte → Byte → Byte) (divisor : List Byte) (w : List Byte) (i : Nat) : List Byte :=
  let coef := w.getD i 0
  if coef = 0 then w
  else
    w.zipIdx.map fun (x, k) =>
      if i ≤ k ∧ k - i < divisor.length ∧ divisor.getD (k - i) 0 ≠ 0 then x ^^^ mul (divisor.getD (k - i) 0) coef else x

/-- `pdivrem(dividend, divisor)` (R123): positions 0..ld-lv, then the last lv - 1 entries of the buffer. -/
def pdivrem (mul : Byte → Byte → Byte) (dividend divisor : List Byte) : List Byte :=
  let ld := dividend.length
  let lv := divisor.length
  ((List.range (ld - lv + 1)).foldl (divideAt mul divisor) dividend).drop (ld - (lv - 1))

/-- `genpoly(n)` (R125): the product of the factors [1, EXP[i]], i = 0..n-1. -/
def genpoly (exp : Vector Byte 512) (mul : Byte → Byte → Byte) (n : Nat) : List Byte :=
  (List.range n).foldl (fun g i => pmul mul g [1, entry exp i]) [1]

/-- `rs_remainder(data, g)` (R127): no data gives n zeros. -/
def rsRemainder (mul : Byte → Byte → Byte) (data g : List Byte) : List Byte :=
  let n := g.length - 1
  if data.length = 0 then List.replicate n 0 else pdivrem mul (data ++ List.replicate n 0) g

/-- A length register holds a legal length of an operand file, 1 to POLY_MAX (R31, R227). -/
def legalLength (len : BitVec 6) : Bool := decide (1 ≤ len.toNat ∧ len.toNat ≤ Config.polyMax)

/-- PMUL's rule (R122). -/
def bodyPmul (s : State) : Ran :=
  require s.gfv (Raise.ofSequence .pmul 0x0001) s <|
  require (legalLength s.palen) (Raise.ofOperand .pmul 0x0001) s <|
  require (legalLength s.pblen) (Raise.ofOperand .pmul 0x0002) s <|
    .done (s.setResult (pmul (gfMul s.exp s.log) (paOperand s) (pbOperand s)) (s.palen.toNat + s.pblen.toNat - 1))

/-- PMUL (R122). -/
def execPmul (s : State) : Host.Outcome State Fault Refusal := runCommand false bodyPmul s

/-- PDIV's rule (R124). -/
def bodyPdiv (s : State) : Ran :=
  require s.gfv (Raise.ofSequence .pdiv 0x0001) s <|
  require (legalLength s.palen) (Raise.ofOperand .pdiv 0x0001) s <|
  require (legalLength s.pblen) (Raise.ofOperand .pdiv 0x0002) s <|
  require (decide (s.pblen.toNat ≤ s.palen.toNat)) (Raise.ofOperand .pdiv 0x0003) s <|
    .done (s.setResult (pdivrem (gfMul s.exp s.log) (paOperand s) (pbOperand s)) (s.pblen.toNat - 1))

/-- PDIV (R124). -/
def execPdiv (s : State) : Host.Outcome State Fault Refusal := runCommand false bodyPdiv s

/-- RSGEN's rule (R126). -/
def bodyRsgen (n : Nat) (s : State) : Ran :=
  require s.gfv (Raise.ofSequence (.rsgen n) 0x0001) s <|
  require (decide (n ≤ Config.polyMax - 1)) (Raise.ofOperand (.rsgen n) 0x0004) s <|
    .done (s.setGenerator (genpoly s.exp (gfMul s.exp s.log) n) (n + 1))

/-- RSGEN n (R126). -/
def execRsgen (n : Nat) (s : State) : Host.Outcome State Fault Refusal := runCommand false (bodyRsgen n) s

/-- RSENC's rule (R128). -/
def bodyRsenc (s : State) : Ran :=
  require s.gfv (Raise.ofSequence .rsenc 0x0001) s <|
  require (decide (1 ≤ s.genlen.toNat)) (Raise.ofSequence .rsenc 0x0004) s <|
  require (decide (s.dcwn.toNat ≤ Config.polyMax)) (Raise.ofOperand .rsenc 0x0005) s <|
    .done (s.setEcc (rsRemainder (gfMul s.exp s.log) (dataOperand s) (genOperand s)) (s.genlen.toNat - 1))

/-- RSENC (R128). -/
def execRsenc (s : State) : Host.Outcome State Fault Refusal := runCommand false bodyRsenc s

end Sys2Proof.Machine
end

