-- ==== Sys2Proof/Machine/Pipeline.lean ====
section
/-! DEFINITION. The pipeline and control commands: NOP, CLRERR and ENCODE (45_pipeline_and_control.md). -/

namespace Sys2Proof.Machine

/-- NOP's rule (R200): no effect. -/
def bodyNop (s : State) : Ran := .done s

/-- NOP (R200). -/
def execNop (s : State) : Host.Outcome State Fault Refusal := runCommand false bodyNop s

/-- CLRERR's rule (R201). -/
def bodyClrerr (s : State) : Ran := .done s.clearError

/-- CLRERR (R201): the one command accepted while an error is pending. -/
def execClrerr (s : State) : Host.Outcome State Fault Refusal := runCommand true bodyClrerr s

/-- The twelve sub-stages of ENCODE in their order; each records its own opcode when it raises (R202). -/
def encodeStages : List (State → Ran) :=
  [bodyBsenc, bodyBspad, bodyBssplit, bodyRsgen Config.nsym, bodyRsenc, bodyMxinit, bodyMxfind, bodyMxtime, bodyMxfrsv,
   bodyMxplace, bodyMxmask, bodyMxfmt]

/-- ENCODE's rule (R202): the tables are required first, with ENCODE's own opcode as the stage. -/
def bodyEncode (s : State) : Ran :=
  require s.gfv (Raise.ofSequence .encode 0x0001) s <| runStages encodeStages s

/-- ENCODE (R202, R203). -/
def execEncode (s : State) : Host.Outcome State Fault Refusal := runCommand false bodyEncode s

end Sys2Proof.Machine
end

