-- ==== Sys2Proof/Machine/Dispatch.lean ====
section
/-! DEFINITION. The meaning of every command: one arm for each constructor of `Instr`. -/

namespace Sys2Proof.Machine

def exec (i : Instr) (s : State) : Host.Outcome State Fault Refusal :=
  match i with
  | .nop => Sys2Proof.Machine.execNop s
  | .gfbuild => Sys2Proof.Machine.execGfbuild s
  | .gfmul => Sys2Proof.Machine.execGfmul s
  | .pmul => Sys2Proof.Machine.execPmul s
  | .pdiv => Sys2Proof.Machine.execPdiv s
  | .rsgen n => Sys2Proof.Machine.execRsgen n s
  | .rsenc => Sys2Proof.Machine.execRsenc s
  | .bsenc => Sys2Proof.Machine.execBsenc s
  | .bspad => Sys2Proof.Machine.execBspad s
  | .bssplit => Sys2Proof.Machine.execBssplit s
  | .mxinit => Sys2Proof.Machine.execMxinit s
  | .mxfind => Sys2Proof.Machine.execMxfind s
  | .mxtime => Sys2Proof.Machine.execMxtime s
  | .mxfrsv => Sys2Proof.Machine.execMxfrsv s
  | .mxplace => Sys2Proof.Machine.execMxplace s
  | .mxmask => Sys2Proof.Machine.execMxmask s
  | .mxfmt => Sys2Proof.Machine.execMxfmt s
  | .encode => Sys2Proof.Machine.execEncode s
  | .clrerr => Sys2Proof.Machine.execClrerr s

end Sys2Proof.Machine
end

