-- ==== Sys2Proof/Machine/Port.lean ====
section
/-! DEFINITION. The host port: what one host transaction does (R9, R26, R63, R64, R81, R250). -/

namespace Sys2Proof.Machine

/-- "Execute command `w`" (R81): the word is decoded and its command runs, or ILLEGAL is raised. -/
def execWord (w : Word) (s : State) : Host.Outcome State Fault Refusal :=
  match decode w with
  | .ok i => exec i s
  | .error _ => execIllegal w s

/-- `MemWrite(a, 1, v)` (R64): a write to CMD executes the command `v`; any other write changes its location. -/
def hostWrite (a v : Word) (s : State) : Host.Outcome State Fault Refusal :=
  if a = cmdAddress then execWord v s else .next (memWrite s a v)

/-- One transaction (R9, R250): a read hands its datum to the host and changes nothing else. -/
def perform : Transaction → State → Host.Outcome State Fault Refusal
  | .read a, s => .next (s.pushReturned (memRead s a))
  | .write a v, s => hostWrite a v s
  | .reset, s => .next (resetMachine s)

/-- The word that makes the command encoded in `nbits` bits as `w` the next one: the transaction that writes it to CMD. -/
def commandTransaction (nbits w : Nat) : Transaction := .write cmdAddress (tableWord nbits w)

end Sys2Proof.Machine
end

