-- ==== Sys2Proof/Machine/Step.lean ====
section
/-! DEFINITION. The step: the machine takes the host's next transaction and performs it (R9).  There is no program counter
and no fetch (R40); with no transaction to come QRCORE is idle and does nothing (R250, R259). -/

namespace Sys2Proof.Machine

/-- One step of the machine (R9). -/
def step (s : State) : Host.Outcome State Fault Refusal :=
  match s.script with
  | [] => .next s
  | t :: rest => perform t (s.setScript rest)

/-- The state whose next transaction writes the command word `w` to CMD, before all that the host was going to do
(R40, R86; log 4). -/
def State.withFetchWord (s : State) (nbits w : Nat) : State := s.setScript (commandTransaction nbits w :: s.script)

end Sys2Proof.Machine
end

