-- ==== Sys2Proof/Safety/Loops.lean ====
section
/-! DEFINITION. The loops of the spec's pseudocode, written as they stand there: what the machine's functions, which say what each
entry becomes, are held against.  The machine does not use them; laws and statements do. -/

namespace Sys2Proof.Spec

open Sys2Proof.Machine

/-! ### R101 -/

/-- The first loop of R101, `n` iterations from index `i` on: `EXP[i] <- x; LOG[x] <- i`, then the next `x`. -/
def gfFill : (n i : Nat) → (x : BitVec 9) → Vector Byte 512 → Vector Byte 256 → Vector Byte 512 × Vector Byte 256
  | 0, _, _, exp, log => (exp, log)
  | n + 1, i, x, exp, log =>
    gfFill n (i + 1) (gfDouble x) (setEntry exp i (x.setWidth 8)) (setEntry log x.toNat (BitVec.ofNat 8 i))

/-- R101: the first loop from `x = 1`, then `for i in 255..509: EXP[i] <- EXP[i - 255]`. -/
def buildTables (exp : Vector Byte 512) (log : Vector Byte 256) : Vector Byte 512 × Vector Byte 256 :=
  let filled := gfFill 255 0 1 exp log
  ((List.range 255).foldl (fun e k => setEntry e (255 + k) (entry e k)) filled.1, filled.2)

/-! ### R121, R123 -/

/-- `r[i] <- r[i] ^ v`. -/
def xorAt (r : List Byte) (i : Nat) (v : Byte) : List Byte := r.set i (r.getD i 0 ^^^ v)

/-- The double loop of R121. -/
def pmul (mul : Byte → Byte → Byte) (p q : List Byte) : List Byte :=
  (List.range p.length).foldl (fun r i =>
    (List.range q.length).foldl (fun r j => xorAt r (i + j) (mul (p.getD i 0) (q.getD j 0))) r)
    (List.replicate (p.length + q.length - 1) 0)

/-- The inner loop of R123 at position `i` with scale factor `coef`. -/
def scaleInto (mul : Byte → Byte → Byte) (divisor w : List Byte) (i : Nat) (coef : Byte) : List Byte :=
  (List.range divisor.length).foldl
    (fun w j => if divisor.getD j 0 ≠ 0 then xorAt w (i + j) (mul (divisor.getD j 0) coef) else w) w

/-- The loop of R123 and the suffix it returns. -/
def pdivrem (mul : Byte → Byte → Byte) (dividend divisor : List Byte) : List Byte :=
  ((List.range (dividend.length - divisor.length + 1)).foldl
    (fun w i => if w.getD i 0 ≠ 0 then scaleInto mul divisor w i (w.getD i 0) else w) dividend).drop
    (dividend.length - (divisor.length - 1))

/-! ### R125, R127 -/

/-- The loop of R125. -/
def genpoly (exp : Vector Byte 512) (mul : Byte → Byte → Byte) (n : Nat) : List Byte :=
  (List.range n).foldl (fun g i => pmul mul g [1, entry exp i]) [1]

/-- `rs_remainder(data, g)` (R127). -/
def rsRemainder (mul : Byte → Byte → Byte) (data g : List Byte) : List Byte :=
  if data.length = 0 then List.replicate (g.length - 1) 0 else pdivrem mul (data ++ List.replicate (g.length - 1) 0) g

/-! ### R152 -/

/-- `while len(s) mod 8 != 0: s <- s ++ [0]`, at most `fuel` times. -/
def fillLoop : (fuel : Nat) → List Bool → List Bool
  | 0, b => b
  | fuel + 1, b => if b.length % 8 ≠ 0 then fillLoop fuel (b ++ [false]) else b

/-- `while len(s) < total: s <- s ++ (msb8(0xEC) if k == 0 else msb8(0x11)); k <- 1 - k`, at most `fuel` times. -/
def padLoop : (fuel : Nat) → (k total : Nat) → List Bool → List Bool
  | 0, _, _, b => b
  | fuel + 1, k, total, b =>
    if b.length < total then padLoop fuel (1 - k) total (b ++ if k = 0 then msb8 0xEC else msb8 0x11) else b

/-- `pad(s, total)` (R152); 8 and `total` iterations are more than the two loops ever make. -/
def pad (b : List Bool) (total : Nat) : List Bool :=
  padLoop total 0 total (fillLoop 8 (b ++ List.replicate (min 4 (total - b.length)) false))

/-! ### R172, R175, R177 -/

/-- `MX[r][c]`. -/
def cellAt (mx : Vector Cell 441) (r c : Nat) : Cell := entry mx (cellIndex r c)

/-- `MX[r][c] <- x`. -/
def setCell (mx : Vector Cell 441) (r c : Nat) (x : Cell) : Vector Cell 441 := setEntry mx (cellIndex r c) x

/-- `MX[r][c].V <- v`. -/
def setV (mx : Vector Cell 441) (r c : Nat) (v : Bool) : Vector Cell 441 := setCell mx r c { cellAt mx r c with v := v }

/-- The body of R172's loops at offset (i - 1, j - 1) from the origin (r0, c0). -/
def findAt (r0 c0 : Int) (mx : Vector Cell 441) (i j : Nat) : Vector Cell 441 :=
  let dr : Int := (i : Int) - 1
  let dc : Int := (j : Int) - 1
  let r := r0 + dr
  let c := c0 + dc
  if 0 ≤ r ∧ r ≤ 20 ∧ 0 ≤ c ∧ c ≤ 20 then
    let v :=
      if 0 ≤ dr ∧ dr ≤ 6 ∧ 0 ≤ dc ∧ dc ≤ 6 then
        let ring := decide (dr = 0 ∨ dr = 6 ∨ dc = 0 ∨ dc = 6)
        let core := decide (2 ≤ dr ∧ dr ≤ 4 ∧ 2 ≤ dc ∧ dc ≤ 4)
        ring || core
      else false
    setCell mx r.toNat c.toNat { cellAt mx r.toNat c.toNat with v := v, r := true }
  else mx

/-- The three nested loops of R172. -/
def findLoop (mx : Vector Cell 441) : Vector Cell 441 :=
  [((0 : Int), (0 : Int)), (14, 0), (0, 14)].foldl (fun mx o =>
    (List.range 9).foldl (fun mx i => (List.range 9).foldl (fun mx j => findAt o.1 o.2 mx i j) mx) mx) mx

/-- The body of R175's loops at cell (r, c), with the index `k` of the next bit. -/
def placeAt (stream : List Bool) (acc : Vector Cell 441 × Nat) (r c : Nat) : Vector Cell 441 × Nat :=
  if (cellAt acc.1 r c).r = false then (setCell acc.1 r c ⟨stream.getD acc.2 false, true, true⟩, acc.2 + 1) else acc

/-- `for t in 0..20: r <- ...; for c in [col, col - 1]: ...` (R175). -/
def placeColumns (stream : List Bool) (col : Nat) (up : Bool) (acc : Vector Cell 441 × Nat) : Vector Cell 441 × Nat :=
  (List.range 21).foldl (fun acc t =>
    let r := if up then 20 - t else t
    placeAt stream (placeAt stream acc r col) r (col - 1)) acc

/-- `while col >= 1: if col == 6: col <- 5; ...; up <- not up; col <- col - 2` (R175), at most `fuel` times. -/
def placeWhile (stream : List Bool) : (fuel : Nat) → (col : Int) → (up : Bool) → Vector Cell 441 × Nat → Vector Cell 441 × Nat
  | 0, _, _, acc => acc
  | fuel + 1, col, up, acc =>
    if 1 ≤ col then
      let col := if col = 6 then 5 else col
      placeWhile stream fuel (col - 2) (!up) (placeColumns stream col.toNat up acc)
    else acc

/-- The loop of R175 from the column pair (20, 19), moving upward. -/
def placeLoop (stream : List Bool) (mx : Vector Cell 441) : Vector Cell 441 := (placeWhile stream 21 20 true (mx, 0)).1

/-- The writes of R177 in their order. -/
def formatLoop (fmt : Word) (mx : Vector Cell 441) : Vector Cell 441 :=
  let f := fun i => fmt.getLsbD i
  let mx := (List.range 6).foldl (fun mx i => setV mx i 8 (f i)) mx
  let mx := setV mx 7 8 (f 6)
  let mx := setV mx 8 8 (f 7)
  let mx := setV mx 8 7 (f 8)
  let mx := (List.range' 9 6).foldl (fun mx i => setV mx 8 (14 - i) (f i)) mx
  let mx := (List.range 8).foldl (fun mx i => setV mx 8 (20 - i) (f i)) mx
  let mx := (List.range' 8 7).foldl (fun mx i => setV mx (6 + i) 8 (f i)) mx
  setV mx 13 8 (f 15)

end Sys2Proof.Spec
end

