-- ==== Sys2Proof/Safety.lean ====
section
/-! DEFINITION. The terms that claims are stated in: what it means that the tables are built (R102), the product of the field
(R103), the invariant every step keeps, the locations each command may write (R73), and a run of several commands. -/

namespace Sys2Proof.Spec

open Sys2Proof.Machine

/-! ### The field -/

/-- EXP and LOG hold the tables of R102, the three entries nothing writes left open. -/
def TablesBuilt (exp : Vector Byte 512) (log : Vector Byte 256) : Prop :=
  (∀ k, k < 255 → entry exp k = expTable.getD k 0) ∧
  (∀ k, 255 ≤ k → k ≤ 509 → entry exp k = entry exp (k - 255)) ∧
  (∀ a, 1 ≤ a → a < 256 → entry log a = logTable.getD a 0)

/-- `x` times the field element 2: a shift to the left, reduced by 0x11D (R14, R101). -/
def timesTwo (x : Byte) : Byte := if x.getLsbD 7 then (x <<< 1) ^^^ 0x1D else x <<< 1

/-- The product of `a` and `b` as polynomials over GF(2) modulo x^8 + x^4 + x^3 + x^2 + 1, by shift and reduce over the bits of
`b` from bit 7 down (R103). -/
def fieldProduct (a b : Byte) : Byte :=
  (List.range 8).foldl (fun acc i => timesTwo acc ^^^ if b.getLsbD (7 - i) then a else 0) 0

/-- The exclusive or of two sequences, entry by entry. -/
def xorList (p q : List Byte) : List Byte := List.zipWith (· ^^^ ·) p q

/-! ### The invariant -/

/-- STATUS.ERR equals `ERR.CAUSE != 0` (R25), ERR and INFO are 0 when no error is pending (R27, R28), and DONE and ERR are not
both 1. -/
def ErrorAgrees (s : State) : Prop :=
  (s.err = true ↔ s.cause ≠ .none) ∧ (s.err = false → s.stage = 0 ∧ s.info = 0) ∧ ¬(s.done = true ∧ s.err = true)

/-- GFV = 1 says that EXP and LOG hold the tables (R25, R106). -/
def TablesAgree (s : State) : Prop := s.gfv = true → TablesBuilt s.exp s.log

/-- BSST and BLEN agree (R31, R42), and a stream that is there begins with the mode indicator (R150). -/
def StreamAgrees (s : State) : Prop :=
  (s.bsst = .empty → s.blen = 0) ∧
  (s.bsst = .raw → ∃ n, n ≤ 255 ∧ s.blen.toNat = 12 + 8 * n) ∧
  (s.bsst = .padded → s.blen.toNat = Config.totalBits) ∧
  (s.bsst ≠ .empty → leading s.bs 4 = Config.modeByte)

/-- GENLEN and ECCN are in their ranges (R31), and a generator that is there is `genpoly(GENLEN - 1)`, built with the tables
(R125, R126). -/
def GeneratorAgrees (s : State) : Prop :=
  s.genlen.toNat ≤ 32 ∧ s.eccn.toNat ≤ 31 ∧
  (1 ≤ s.genlen.toNat →
    s.gfv = true ∧ genOperand s = genpoly s.exp (gfMul s.exp s.log) (s.genlen.toNat - 1))

/-- What a cell with mark `m` of the picture of R180 may hold once stage `st` is done: its R and its D, its value where structure
fixes it, and 0 in every cell that nothing has valued yet (R43, R171 to R177). -/
def cellFits (st m : Nat) (x : Cell) : Bool :=
  let finder := m == 1 || m == 2 || m == 3
  let timing := m == 4 || m == 5
  let reserved := (decide (2 ≤ st) && finder) || (decide (3 ≤ st) && timing) || (decide (4 ≤ st) && m == 6) || decide (5 ≤ st)
  (x.r == reserved) && (x.d == (decide (5 ≤ st) && m == 0)) &&
    (if finder then x.v == (decide (2 ≤ st) && m == 1)
     else if timing then x.v == (decide (3 ≤ st) && m == 4)
     else if m == 6 then decide (7 ≤ st) || !x.v
     else decide (5 ≤ st) || !x.v)

/-- Every cell fits the stage in MXS; before stage 1 the matrix holds anything (R25, R38). -/
def MatrixAgrees (s : State) : Prop :=
  1 ≤ s.mxs.toNat → ∀ r c, r < 21 → c < 21 → cellFits s.mxs.toNat (mark r c) (cellAt s.mx r c) = true

/-- The invariant that every step keeps. -/
structure Inv (s : State) : Prop where
  error : ErrorAgrees s
  tables : TablesAgree s
  stream : StreamAgrees s
  generator : GeneratorAgrees s
  matrix : MatrixAgrees s

/-! ### What a command may write -/

/-- Address `a` is one of the `len` addresses from `base` on. -/
def inRun (a base len : Nat) : Bool := decide (base ≤ a ∧ a < base + len)

/-- Address `a` is the MX location of a cell for which `p` holds of its index (R38). -/
def inCells (a : Nat) (p : Nat → Bool) : Bool := inRun a 0x0800 441 && p (a - 0x0800)

/-- The mark of the cell with index `k`. -/
def markAt (k : Nat) : Nat := mark (k / 21) (k % 21)

/-- The "writes" column of R73 for a command started in `s`, as host addresses, less STATUS (0x0005), and less ERR and INFO
(0x0007, 0x0008), which only an error or CLRERR writes. -/
def writesTo (i : Instr) (s : State) (a : Nat) : Bool :=
  match i with
  | .nop | .clrerr => false
  | .gfbuild => inRun a 0x0200 510 || inRun a 0x0401 255
  | .gfmul => a == 0x000C
  | .pmul => inRun a 0x06C0 (s.palen.toNat + s.pblen.toNat - 1) || a == 0x0014
  | .pdiv => inRun a 0x06C0 (s.pblen.toNat - 1) || a == 0x0014
  | .rsgen n => inRun a 0x0640 (n + 1) || a == 0x0011
  | .rsenc => inRun a 0x0620 (s.genlen.toNat - 1) || a == 0x0010
  | .bsenc => inRun a 0x1000 (12 + 8 * s.plen.toNat) || a == 0x000E
  | .bspad => inRun a (0x1000 + s.blen.toNat) (Config.totalBits - s.blen.toNat) || a == 0x000E
  | .bssplit => inRun a 0x0600 Config.ndata || a == 0x000F
  | .mxinit => inRun a 0x0800 441
  | .mxfind => inCells a fun k => markAt k == 1 || markAt k == 2 || markAt k == 3
  | .mxtime => inCells a fun k => markAt k == 4 || markAt k == 5
  | .mxfrsv => inCells a fun k => markAt k == 6
  | .mxplace => inCells a fun k => !(entry s.mx k).r
  | .mxmask => inCells a fun k => (entry s.mx k).d && decide ((k / 21 + k % 21) % 2 = 0)
  | .mxfmt => inCells a fun k => markAt k == 6
  | .encode =>
    inRun a 0x1000 (max (12 + 8 * s.plen.toNat) Config.totalBits) || a == 0x000E || inRun a 0x0600 Config.ndata || a == 0x000F ||
      inRun a 0x0640 (Config.nsym + 1) || a == 0x0011 || inRun a 0x0620 Config.nsym || a == 0x0010 || inRun a 0x0800 441

/-- Every location reads in `t` what it read in `s`, but STATUS, the locations `i` may write, and, for CLRERR or when an error is
recorded, ERR and INFO; and the host's own sequence, what it has read and the count of resets are untouched. -/
def OnlyWrites (i : Instr) (s t : State) : Prop :=
  (∀ a : Word, a ≠ 0x0005 → writesTo i s a.toNat = false → (i = .clrerr ∨ t.err = true → a ≠ 0x0007 ∧ a ≠ 0x0008) →
    memRead t a = memRead s a) ∧
  t.script = s.script ∧ t.returned = s.returned ∧ t.resets = s.resets

/-! ### The encoding and the host's view -/

/-- The rows of R82 whose mask is 0xFFFF: the `match` column and the command. -/
def fixedRows : List (Word × Instr) :=
  [(0x0000, .nop), (0x0100, .gfbuild), (0x0200, .gfmul), (0x1000, .pmul), (0x1100, .pdiv), (0x1300, .rsenc),
   (0x2000, .bsenc), (0x2100, .bspad), (0x2200, .bssplit), (0x3000, .mxinit), (0x3100, .mxfind), (0x3200, .mxtime),
   (0x3300, .mxfrsv), (0x3400, .mxplace), (0x3500, .mxmask), (0x3600, .mxfmt), (0x4000, .encode), (0x7E00, .clrerr)]

/-- The width of the location at a host address where R21 and R62 let the host write it (CMD and STATUS apart). -/
def writableWidth (a : Nat) : Option Nat :=
  if a = 0x0004 then some 2
  else if a = 0x0009 then some 16
  else if a = 0x000A ∨ a = 0x000B ∨ a = 0x000D then some 8
  else if a = 0x000F ∨ a = 0x0012 ∨ a = 0x0013 then some 6
  else if 0x0500 ≤ a ∧ a ≤ 0x05FF then some 9
  else if (0x0600 ≤ a ∧ a ≤ 0x061F) ∨ (0x0680 ≤ a ∧ a ≤ 0x069F) ∨ (0x06A0 ≤ a ∧ a ≤ 0x06BF) then some 8
  else none

/-- The addresses R62 leaves unmapped. -/
def unmapped (a : Nat) : Bool :=
  decide ((0x0015 ≤ a ∧ a ≤ 0x01FF) ∨ (0x0660 ≤ a ∧ a ≤ 0x067F) ∨ (0x0700 ≤ a ∧ a ≤ 0x07FF) ∨ (0x09B9 ≤ a ∧ a ≤ 0x0FFF) ∨
    (0x1804 ≤ a ∧ a ≤ 0xFFFF))

/-! ### Runs of commands -/

/-- The host issues the commands one after another; the first one that stops the machine ends the run. -/
def execAll : List Instr → State → Host.Outcome State Fault Refusal
  | [], s => .next s
  | i :: is, s =>
    match exec i s with
    | .next t => execAll is t
    | .fault r => .fault r
    | .refused r => .refused r

/-- The twelve-command script of R203. -/
def encodeScript : List Instr :=
  [.bsenc, .bspad, .bssplit, .rsgen 7, .rsenc, .mxinit, .mxfind, .mxtime, .mxfrsv, .mxplace, .mxmask, .mxfmt]

/-- The state a command leaves when its rule raises: the three error fields and DONE (R224). -/
def failed (s : State) (c : Cause) (stage : Byte) (info : Word) : State :=
  { s with done := false, err := true, cause := c, stage := stage, info := info }

end Sys2Proof.Spec
end

