-- ==== Sys2Proof/Certificates/Slice0/Obligations.lean ====
section
/-! DEFINITION. The statements for the provers.  Each names the rule of spec/ it formalises; a clause that rests on the model's own
choice names the log entry (notes/assumptions).  "Answers a next state" is `= .next t`. -/

open Sys2Proof Sys2Proof.Machine

/-! ### Encoding (R80 to R84) -/

/-- Every row of the opcode table decodes to its command, and RSGEN with its immediate at 0, 7, 31, 32 and 255 (R82, R83). -/
def Obligations.OpcodeTableWordsDecode : Prop :=
  decode 0x0000 = .ok .nop ∧ decode 0x0100 = .ok .gfbuild ∧ decode 0x0200 = .ok .gfmul ∧ decode 0x1000 = .ok .pmul ∧
  decode 0x1100 = .ok .pdiv ∧ decode 0x1200 = .ok (.rsgen 0) ∧ decode 0x1207 = .ok (.rsgen 7) ∧
  decode 0x121F = .ok (.rsgen 31) ∧ decode 0x1220 = .ok (.rsgen 32) ∧ decode 0x12FF = .ok (.rsgen 255) ∧
  decode 0x1300 = .ok .rsenc ∧ decode 0x2000 = .ok .bsenc ∧ decode 0x2100 = .ok .bspad ∧ decode 0x2200 = .ok .bssplit ∧
  decode 0x3000 = .ok .mxinit ∧ decode 0x3100 = .ok .mxfind ∧ decode 0x3200 = .ok .mxtime ∧ decode 0x3300 = .ok .mxfrsv ∧
  decode 0x3400 = .ok .mxplace ∧ decode 0x3500 = .ok .mxmask ∧ decode 0x3600 = .ok .mxfmt ∧ decode 0x4000 = .ok .encode ∧
  decode 0x7E00 = .ok .clrerr

/-- "the word selects the row when `(w & mask) == match`" (R82): the decoder gives a command exactly for the words that match its
row, with mask 0xFFFF for a C0 row and 0xFF00 for RSGEN, whose count is the word's low byte (R83); every word that matches no
row is rejected. -/
def Obligations.DecodeSelectsTheMatchingRow : Prop :=
  (∀ (w : Word) (i : Instr), decode w = .ok i ↔
    (∃ row ∈ Spec.fixedRows, w &&& 0xFFFF = row.1 ∧ i = row.2) ∨
    (w &&& 0xFF00 = 0x1200 ∧ i = .rsgen (w &&& 0x00FF).toNat)) ∧
  (∀ w : Word, (∃ e, decode w = .error e) ↔
    (∀ row ∈ Spec.fixedRows, w &&& 0xFFFF ≠ row.1) ∧ w &&& 0xFF00 ≠ 0x1200)

/-- DECODE AND ENCODE AGREE in both directions: a word decodes to a command exactly if the command is well formed and the word
is its encoding. -/
def Obligations.DecodeAndEncodeAgree : Prop :=
  ∀ (w : Word) (i : Instr), decode w = .ok i ↔ i.WellFormed ∧ encode i = w

/-! ### The frame of a command and the errors (R81, R224 to R232) -/

/-- While an error is pending every write to CMD but the exact word 0x7E00 changes no state at all, even if the word is illegal;
host reads and writes to other locations work as usual (R232, R63, R64).  The word 0x7E00 is accepted and has CLRERR's effect (R81,
R201).  The same of each command, and of the step of each such write.  That a read's datum goes to `State.returned` is the model's
choice (log 5), and that the transactions are in `State.script` is log 4. -/
def Obligations.PendingErrorIgnoresEveryOtherWord : Prop :=
  ∀ s : State, s.err = true →
    (∀ w : Word, w ≠ 0x7E00 → execWord w s = .next s) ∧
    (∀ i : Instr, i ≠ .clrerr → exec i s = .next s) ∧
    (∀ (w : Word) (rest : List Transaction), s.script = .write 0x0006 w :: rest → w ≠ 0x7E00 →
      step s = .next { s with script := rest }) ∧
    (execWord 0x7E00 s = .next { s with cause := .none, stage := 0, info := 0, err := false, done := true }) ∧
    (∀ a v : Word, a ≠ 0x0006 → hostWrite a v s = .next (memWrite s a v)) ∧
    (∀ a : Word, perform (.read a) s = .next { s with returned := memRead s a :: s.returned })

/-- A word that is no command raises ILLEGAL: the stage is its top byte, INFO the word, and nothing else changes (R84, R225). -/
def Obligations.IllegalWordRaisesIllegal : Prop :=
  ∀ (s : State) (w : Word), s.err = false → (∃ e, decode w = .error e) →
    execWord w s = .next (Spec.failed s .illegal (w.extractLsb' 8 8) w)

/-- NOP changes DONE alone, and is ignored while an error is pending (R200). -/
def Obligations.NopSetsDoneOnly : Prop :=
  ∀ s : State,
    (∀ w : Word, decode w = .ok .nop ↔ w = 0x0000) ∧
    (s.err = false → exec .nop s = .next { s with done := true }) ∧
    (s.err = true → exec .nop s = .next s)

/-- CLRERR, the return from an error, clears ERR, INFO and STATUS.ERR, sets DONE and restores nothing else; it is accepted whether
or not an error is pending (R201, R231). -/
def Obligations.ClrerrClearsTheError : Prop :=
  ∀ s : State,
    exec .clrerr s = .next { s with cause := .none, stage := 0, info := 0, err := false, done := true } ∧
    ∀ t, exec .clrerr s = .next t → memRead t 0x0007 = 0 ∧ memRead t 0x0008 = 0

/-- Errors are precise: a failing command other than ENCODE changes nothing but STATUS.ERR, STATUS.DONE, ERR and INFO, and
records its own opcode as the stage (R224, R27). -/
def Obligations.FailingCommandChangesErrorFieldsOnly : Prop :=
  ∀ (i : Instr) (s t : State), i ≠ .encode → s.err = false → exec i s = .next t → t.err = true →
    t = Spec.failed s t.cause (opcode i) t.info ∧ t.cause ≠ .none

/-! ### The step and the host port (R9, R25, R62 to R64, R230, R250) -/

/-- A STEP RUNS THE DECODED COMMAND: when the host's next transaction writes a word to CMD, the step executes that word in the state
with the transaction taken (R9, R26); a word that decodes is executed as its command's meaning, and a word that does not decode, with
no error pending, raises ILLEGAL (R81, R225).  The sequence in State and its load by `withFetchWord` are log 4. -/
def Obligations.StepRunsTheDecodedCommand : Prop :=
  (∀ (s : State) (w : Word) (rest : List Transaction),
    s.script = .write 0x0006 w :: rest → step s = execWord w { s with script := rest }) ∧
  (∀ (s : State) (w : Word) (i : Instr), decode w = .ok i → execWord w s = exec i s) ∧
  (∀ (s : State) (w : Word) (i : Instr) (rest : List Transaction),
    s.script = .write 0x0006 w :: rest → decode w = .ok i → step s = exec i { s with script := rest }) ∧
  (∀ (s : State) (w : Word) (rest : List Transaction), s.script = .write 0x0006 w :: rest → s.err = false →
    (∃ e, decode w = .error e) →
      step s = .next (Spec.failed { s with script := rest } .illegal (w.extractLsb' 8 8) w)) ∧
  (∀ (s : State) (nbits w : Nat) (i : Instr), decodeTableWord nbits w = some i → step (s.withFetchWord nbits w) = exec i s)

/-- The machine never stops: every state has a next state, for every transaction; with none to come it idles, which is
the model's reading of R250 and R259 (log 6). -/
def Obligations.EveryStepHasANextState : Prop :=
  (∀ s : State, ∃ t, step s = .next t) ∧ (∀ s : State, s.script = [] → step s = .next s)

/-- A host read hands over what the location holds and changes nothing in QRCORE (R63; where the datum goes is log 5). -/
def Obligations.HostReadChangesNothing : Prop :=
  ∀ (s : State) (a : Word) (rest : List Transaction), s.script = .read a :: rest →
    step s = .next { s with script := rest, returned := memRead s a :: s.returned }

/-- A host write to a location other than CMD (R64, R65), as a step of the machine (R9): a writable location of width N reads the low
N bits of the value afterwards, a 1 in bit 1 of a write to STATUS clears DONE and nothing else, any other location is unchanged; no
location but the written one reads otherwise than before; and the model's own fields, the sequence less the transaction taken among
them, are kept (log 4, log 5, log 1). -/
def Obligations.HostWriteChangesOneLocation : Prop :=
  ∀ (s : State) (a v : Word), a ≠ 0x0006 →
    hostWrite a v s = .next (memWrite s a v) ∧
    (∀ rest : List Transaction, s.script = .write a v :: rest → step s = .next (memWrite { s with script := rest } a v)) ∧
    ((memWrite s a v).script = s.script ∧ (memWrite s a v).returned = s.returned ∧ (memWrite s a v).resets = s.resets) ∧
    (∀ b : Word, b ≠ a → memRead (memWrite s a v) b = memRead s b) ∧
    (∀ n, Spec.writableWidth a.toNat = some n → (memRead (memWrite s a v) a).toNat = v.toNat % 2 ^ n) ∧
    (a = 0x0005 → memRead (memWrite s a v) a = memRead s a &&& ~~~(v &&& 0x0002) ∧
      memWrite s a v = { s with done := s.done && !v.getLsbD 1 }) ∧
    (Spec.writableWidth a.toNat = none → a ≠ 0x0005 → memWrite s a v = s)

/-- The address map (R62, R63): what every register and every file location reads, and that every unmapped address reads 0.  CTRL,
STATUS and ERR read the words `ctrlWord`, `statusWord` and `errWord`, whose bits `Obligations.StatusFieldsAsRead` states. -/
def Obligations.AddressMapReads : Prop :=
  ∀ s : State,
    (memRead s 0x0000 = 0x5152 ∧ memRead s 0x0001 = 0x0001 ∧ memRead s 0x0002 = 0x0098 ∧ memRead s 0x0003 = 0x1307 ∧
      memRead s 0x0006 = 0 ∧ memRead s 0x0008 = s.info ∧ memRead s 0x0009 = s.fmt) ∧
    (memRead s 0x0004 = ctrlWord s ∧ memRead s 0x0005 = statusWord s ∧ memRead s 0x0007 = errWord s) ∧
    ((memRead s 0x000A).toNat = s.gfa.toNat ∧ (memRead s 0x000B).toNat = s.gfb.toNat ∧
      (memRead s 0x000C).toNat = s.gfr.toNat ∧ (memRead s 0x000D).toNat = s.plen.toNat ∧
      (memRead s 0x000E).toNat = s.blen.toNat ∧ (memRead s 0x000F).toNat = s.dcwn.toNat ∧
      (memRead s 0x0010).toNat = s.eccn.toNat ∧ (memRead s 0x0011).toNat = s.genlen.toNat ∧
      (memRead s 0x0012).toNat = s.palen.toNat ∧ (memRead s 0x0013).toNat = s.pblen.toNat ∧
      (memRead s 0x0014).toNat = s.prlen.toNat) ∧
    (∀ k, k < 512 → (memRead s (BitVec.ofNat 16 (0x0200 + k))).toNat = (entry s.exp k).toNat) ∧
    (∀ k, k < 256 → (memRead s (BitVec.ofNat 16 (0x0400 + k))).toNat = (entry s.log k).toNat) ∧
    (∀ k, k < 256 → (memRead s (BitVec.ofNat 16 (0x0500 + k))).toNat = (entry s.pay k).toNat) ∧
    (∀ k, k < 32 → (memRead s (BitVec.ofNat 16 (0x0600 + k))).toNat = (entry s.dcw k).toNat) ∧
    (∀ k, k < 32 → (memRead s (BitVec.ofNat 16 (0x0620 + k))).toNat = (entry s.ecc k).toNat) ∧
    (∀ k, k < 32 → (memRead s (BitVec.ofNat 16 (0x0640 + k))).toNat = (entry s.gen k).toNat) ∧
    (∀ k, k < 32 → (memRead s (BitVec.ofNat 16 (0x0680 + k))).toNat = (entry s.pa k).toNat) ∧
    (∀ k, k < 32 → (memRead s (BitVec.ofNat 16 (0x06A0 + k))).toNat = (entry s.pb k).toNat) ∧
    (∀ k, k < 64 → (memRead s (BitVec.ofNat 16 (0x06C0 + k))).toNat = (entry s.pr k).toNat) ∧
    (∀ r c, r < 21 → c < 21 → memRead s (BitVec.ofNat 16 (0x0800 + 21 * r + c)) = cellWord (Spec.cellAt s.mx r c)) ∧
    (∀ k, k < 2052 → (memRead s (BitVec.ofNat 16 (0x1000 + k))).toNat = bit (entry s.bs k)) ∧
    (∀ a : Word, Spec.unmapped a.toNat = true → memRead s a = 0)

/-- The fields of STATUS, CTRL, ERR and an MX entry as the host reads them, bit by bit (R24, R25, R27, R38), and the codes it reads
for each state of the bit stream (R25) and each cause of an error (R220). -/
def Obligations.StatusFieldsAsRead : Prop :=
  ∀ s : State,
    ((memRead s 0x0005).getLsbD 0 = false ∧ (memRead s 0x0005).getLsbD 1 = s.done ∧ (memRead s 0x0005).getLsbD 2 = s.err ∧
      (memRead s 0x0005).getLsbD 3 = s.gfv ∧ ((memRead s 0x0005).extractLsb' 4 2).toNat = s.bsst.code ∧
      (memRead s 0x0005).extractLsb' 6 3 = s.mxs ∧ (memRead s 0x0005).extractLsb' 9 7 = 0) ∧
    ((memRead s 0x0004).getLsbD 0 = s.die ∧ (memRead s 0x0004).getLsbD 1 = s.eie ∧ (memRead s 0x0004).extractLsb' 2 14 = 0) ∧
    (((memRead s 0x0007).extractLsb' 0 4).toNat = s.cause.code ∧ (memRead s 0x0007).extractLsb' 4 4 = 0 ∧
      (memRead s 0x0007).extractLsb' 8 8 = s.stage) ∧
    ((s.bsst = .empty → (memRead s 0x0005).extractLsb' 4 2 = 0) ∧ (s.bsst = .raw → (memRead s 0x0005).extractLsb' 4 2 = 1) ∧
      (s.bsst = .padded → (memRead s 0x0005).extractLsb' 4 2 = 2)) ∧
    ((s.cause = .none → (memRead s 0x0007).extractLsb' 0 4 = 0) ∧ (s.cause = .encoding → (memRead s 0x0007).extractLsb' 0 4 = 1) ∧
      (s.cause = .capacity → (memRead s 0x0007).extractLsb' 0 4 = 2) ∧ (s.cause = .length → (memRead s 0x0007).extractLsb' 0 4 = 3) ∧
      (s.cause = .illegal → (memRead s 0x0007).extractLsb' 0 4 = 4) ∧
      (s.cause = .sequence → (memRead s 0x0007).extractLsb' 0 4 = 5) ∧
      (s.cause = .operand → (memRead s 0x0007).extractLsb' 0 4 = 6)) ∧
    (∀ x : Cell, (cellWord x).getLsbD 0 = x.v ∧ (cellWord x).getLsbD 1 = x.r ∧ (cellWord x).getLsbD 2 = x.d ∧
      (cellWord x).extractLsb' 3 13 = 0)

/-- The interrupt line is the OR of DONE gated by DIE and ERR gated by EIE, in the bits the host reads, and is 0 after reset
(R230). -/
def Obligations.IrqIsTheEnabledPendingBits : Prop :=
  (∀ s : State, irq s =
    (((memRead s 0x0005).getLsbD 1 && (memRead s 0x0004).getLsbD 0) ||
      ((memRead s 0x0005).getLsbD 2 && (memRead s 0x0004).getLsbD 1))) ∧
  irq State.reset = false

/-- Reset (R250, R251): the step of a reset leaves every register at its reset value, whatever the state was, and touches neither the
host's sequence nor what it has read (log 10); what the files then hold is not said (R252).  The value of FMT is the spec's default
(log 3). -/
def Obligations.ResetGivesTheResetValues : Prop :=
  (∀ (s : State) (rest : List Transaction), s.script = .reset :: rest →
    ∃ t, step s = .next t ∧ t.script = rest ∧ t.returned = s.returned ∧ irq t = false ∧
      ∀ a : Word, a.toNat ≤ 0x0014 → memRead t a = memRead State.reset a) ∧
  (memRead State.reset 0x0000 = 0x5152 ∧ memRead State.reset 0x0001 = 0x0001 ∧ memRead State.reset 0x0002 = 0x0098 ∧
    memRead State.reset 0x0003 = 0x1307 ∧ memRead State.reset 0x0009 = 0xF7C4) ∧
  (∀ a : Word, (0x0004 ≤ a.toNat ∧ a.toNat ≤ 0x0014 ∧ a.toNat ≠ 0x0009) → memRead State.reset a = 0)

/-! ### The GF engine (R101 to R106) -/

/-- GFBUILD completes in every state with no error pending: EXP[0] is 1, each next power is twice the one before, reduced by 0x11D,
LOG is the inverse of EXP on 0..254, EXP[255..509] repeat EXP[0..254], EXP[510], EXP[511] and LOG[0] are kept, GFV and DONE are
set, and nothing else changes (R101). -/
def Obligations.GfbuildBuildsTheTables : Prop :=
  ∀ s : State, s.err = false →
    ∃ e l, exec .gfbuild s = .next { s with exp := e, log := l, gfv := true, done := true } ∧
      entry e 0 = 1 ∧
      (∀ i, i < 254 → entry e (i + 1) = Spec.timesTwo (entry e i)) ∧
      (∀ i, i < 255 → entry l (entry e i).toNat = BitVec.ofNat 8 i) ∧
      (∀ i, 255 ≤ i → i ≤ 509 → entry e i = entry e (i - 255)) ∧
      (entry e 510 = entry s.exp 510 ∧ entry e 511 = entry s.exp 511 ∧ entry l 0 = entry s.log 0)

/-- The tables GFBUILD leaves are the printed ones (R102), LOG inverts EXP and EXP inverts LOG, and the 255 values are the 255
non-zero bytes, each once. -/
def Obligations.GfbuildTablesArePrinted : Prop :=
  (∀ s t : State, s.err = false → exec .gfbuild s = .next t → Spec.TablesBuilt t.exp t.log) ∧
  (∀ (e : Vector Byte 512) (l : Vector Byte 256), Spec.TablesBuilt e l →
    (∀ i, i < 255 → (entry l (entry e i).toNat).toNat = i) ∧
    (∀ a, 1 ≤ a → a < 256 → (entry e (entry l a).toNat).toNat = a ∧ (entry l a).toNat ≤ 254) ∧
    (∀ b : Byte, b ≠ 0 → ∃ i, i < 255 ∧ entry e i = b ∧ ∀ j, j < 255 → entry e j = b → j = i))

/-- GFMUL (R104): with the tables built `GFR` becomes `gf_mul(GFA, GFB)` and nothing else but DONE changes; without them it raises
SEQUENCE(1). The examples of the rule hold in the printed tables. -/
def Obligations.GfmulMultiplies : Prop :=
  (∀ w : Word, decode w = .ok .gfmul ↔ w = 0x0200) ∧
  (∀ s : State, s.err = false → s.gfv = true →
    exec .gfmul s = .next { s with
      gfr := if s.gfa = 0 ∨ s.gfb = 0 then 0 else entry s.exp ((entry s.log s.gfa.toNat).toNat + (entry s.log s.gfb.toNat).toNat)
      done := true }) ∧
  (∀ s : State, s.err = false → s.gfv = false → exec .gfmul s = .next (Spec.failed s .sequence 0x02 0x0001)) ∧
  (∀ s t : State, Spec.TablesBuilt s.exp s.log → s.err = false → s.gfv = true → exec .gfmul s = .next t →
    (s.gfa = 0x02 → s.gfb = 0x80 → t.gfr = 0x1D) ∧ (s.gfa = 0x8E → s.gfb = 0x02 → t.gfr = 0x01) ∧
    (s.gfa = 0x8E → s.gfb = 0x8E → t.gfr = 0x47))

/-- With the printed tables `gf_mul` is the product of polynomials over GF(2) modulo x^8 + x^4 + x^3 + x^2 + 1 (R103). -/
def Obligations.GfMulIsTheFieldProduct : Prop :=
  ∀ (e : Vector Byte 512) (l : Vector Byte 256), Spec.TablesBuilt e l → ∀ a b : Byte, gfMul e l a b = Spec.fieldProduct a b

/-- The laws of R105: `gf_mul` commutes, 0 annihilates, 1 is neutral, it is associative and distributes over exclusive or; and the
index it forms is at most 508 (R103). -/
def Obligations.GfMulLaws : Prop :=
  ∀ (e : Vector Byte 512) (l : Vector Byte 256), Spec.TablesBuilt e l → ∀ a b c : Byte,
    gfMul e l a b = gfMul e l b a ∧ gfMul e l a 0 = 0 ∧ gfMul e l 1 a = a ∧
    gfMul e l a (gfMul e l b c) = gfMul e l (gfMul e l a b) c ∧
    gfMul e l a (b ^^^ c) = gfMul e l a b ^^^ gfMul e l a c ∧
    (a ≠ 0 → b ≠ 0 → (entry l a.toNat).toNat + (entry l b.toNat).toNat ≤ 508)

/-- No transaction but a GFBUILD or a reset changes an entry of EXP or LOG; GFV goes back to 0 only by a reset; and GFBUILD on tables
already built leaves them as they are (R25, R101, R106). -/
def Obligations.TablesAreReadOnlyOnceBuilt : Prop :=
  (∀ (tr : Transaction) (s t : State), perform tr s = .next t → tr ≠ .reset →
    (s.gfv = true → t.gfv = true) ∧ (tr ≠ .write 0x0006 0x0100 → t.exp = s.exp ∧ t.log = s.log)) ∧
  (∀ s t : State, Spec.TablesBuilt s.exp s.log → exec .gfbuild s = .next t → t.exp = s.exp ∧ t.log = s.log)

/-! ### The Reed-Solomon unit (R120 to R129) -/

/-- PMUL (R121, R122): with the tables built and both lengths in 1..32, PR takes the literal convolution of the operands, PRLEN its
length, the entries of PR beyond it are kept, and nothing else but DONE changes; otherwise SEQUENCE(1), OPERAND(1), OPERAND(2) in
that order. -/
def Obligations.PmulConvolves : Prop :=
  (∀ w : Word, decode w = .ok .pmul ↔ w = 0x1000) ∧
  (∀ s : State, s.err = false → s.gfv = true → 1 ≤ s.palen.toNat → s.palen.toNat ≤ 32 → 1 ≤ s.pblen.toNat → s.pblen.toNat ≤ 32 →
    ∃ p, exec .pmul s = .next { s with pr := p, prlen := BitVec.ofNat 6 (s.palen.toNat + s.pblen.toNat - 1), done := true } ∧
      leading p (s.palen.toNat + s.pblen.toNat - 1) =
        Spec.pmul (gfMul s.exp s.log) (leading s.pa s.palen.toNat) (leading s.pb s.pblen.toNat) ∧
      ∀ k, s.palen.toNat + s.pblen.toNat - 1 ≤ k → entry p k = entry s.pr k) ∧
  (∀ s : State, s.err = false → s.gfv = false → exec .pmul s = .next (Spec.failed s .sequence 0x10 0x0001)) ∧
  (∀ s : State, s.err = false → s.gfv = true → (s.palen.toNat = 0 ∨ 32 < s.palen.toNat) →
    exec .pmul s = .next (Spec.failed s .operand 0x10 0x0001)) ∧
  (∀ s : State, s.err = false → s.gfv = true → 1 ≤ s.palen.toNat → s.palen.toNat ≤ 32 →
    (s.pblen.toNat = 0 ∨ 32 < s.pblen.toNat) → exec .pmul s = .next (Spec.failed s .operand 0x10 0x0002))

/-- PDIV (R123, R124): with the tables built and 1 ≤ PBLEN ≤ PALEN ≤ 32, PR takes the suffix that the literal division leaves, PRLEN
is PBLEN - 1, the entries beyond are kept, and nothing else but DONE changes; otherwise SEQUENCE(1), OPERAND(1), OPERAND(2),
OPERAND(3) in that order. -/
def Obligations.PdivDivides : Prop :=
  (∀ w : Word, decode w = .ok .pdiv ↔ w = 0x1100) ∧
  (∀ s : State, s.err = false → s.gfv = true → s.palen.toNat ≤ 32 → 1 ≤ s.pblen.toNat → s.pblen.toNat ≤ s.palen.toNat →
    ∃ p, exec .pdiv s = .next { s with pr := p, prlen := BitVec.ofNat 6 (s.pblen.toNat - 1), done := true } ∧
      leading p (s.pblen.toNat - 1) =
        Spec.pdivrem (gfMul s.exp s.log) (leading s.pa s.palen.toNat) (leading s.pb s.pblen.toNat) ∧
      ∀ k, s.pblen.toNat - 1 ≤ k → entry p k = entry s.pr k) ∧
  (∀ s : State, s.err = false → s.gfv = false → exec .pdiv s = .next (Spec.failed s .sequence 0x11 0x0001)) ∧
  (∀ s : State, s.err = false → s.gfv = true → (s.palen.toNat = 0 ∨ 32 < s.palen.toNat) →
    exec .pdiv s = .next (Spec.failed s .operand 0x11 0x0001)) ∧
  (∀ s : State, s.err = false → s.gfv = true → 1 ≤ s.palen.toNat → s.palen.toNat ≤ 32 →
    (s.pblen.toNat = 0 ∨ 32 < s.pblen.toNat) → exec .pdiv s = .next (Spec.failed s .operand 0x11 0x0002)) ∧
  (∀ s : State, s.err = false → s.gfv = true → 1 ≤ s.palen.toNat → s.palen.toNat < s.pblen.toNat → s.pblen.toNat ≤ 32 →
    exec .pdiv s = .next (Spec.failed s .operand 0x11 0x0003))

/-- RSGEN n (R125, R126): with the tables built and n ≤ 31, GEN takes the product of the factors [1, EXP[i]], GENLEN is n + 1, the
entries beyond are kept, and nothing else but DONE changes; otherwise SEQUENCE(1), then OPERAND(4).  That a count of 256 or more,
which no word carries, raises the same errors is the model's choice (log 12). -/
def Obligations.RsgenBuildsTheGenerator : Prop :=
  (∀ (w : Word) (n : Nat), decode w = .ok (.rsgen n) ↔ n < 256 ∧ w = BitVec.ofNat 16 (0x1200 + n)) ∧
  (∀ (s : State) (n : Nat), s.err = false → s.gfv = true → n ≤ 31 →
    ∃ g, exec (.rsgen n) s = .next { s with gen := g, genlen := BitVec.ofNat 6 (n + 1), done := true } ∧
      leading g (n + 1) = Spec.genpoly s.exp (gfMul s.exp s.log) n ∧ ∀ k, n + 1 ≤ k → entry g k = entry s.gen k) ∧
  (∀ (s : State) (n : Nat), s.err = false → s.gfv = false → exec (.rsgen n) s = .next (Spec.failed s .sequence 0x12 0x0001)) ∧
  (∀ (s : State) (n : Nat), s.err = false → s.gfv = true → 32 ≤ n → exec (.rsgen n) s = .next (Spec.failed s .operand 0x12 0x0004))

/-- The generator polynomials for 0 to 10 symbols are the printed rows (R125). -/
def Obligations.GeneratorRowsArePrinted : Prop :=
  ∀ (e : Vector Byte 512) (l : Vector Byte 256), Spec.TablesBuilt e l →
    ∀ n, n ≤ 10 → genpoly e (gfMul e l) n = Spec.generatorRows.getD n []

/-- `genpoly(n)` has n + 1 coefficients, is monic, and its last coefficient is not zero (R125). -/
def Obligations.GeneratorIsMonicWithNonzeroTail : Prop :=
  ∀ (e : Vector Byte 512) (l : Vector Byte 256), Spec.TablesBuilt e l → ∀ n, n ≤ 255 →
    (genpoly e (gfMul e l) n).length = n + 1 ∧ (genpoly e (gfMul e l) n).getD 0 0 = 1 ∧ (genpoly e (gfMul e l) n).getD n 0 ≠ 0

/-- RSENC (R127, R128): with the tables built, a generator present (GENLEN 1..32) and DCWN ≤ 32, ECC takes the remainder of the data
with n zeros appended (n zeros when there is no data), ECCN is n = GENLEN - 1, the entries beyond are kept, and nothing else but
DONE changes; otherwise SEQUENCE(1), SEQUENCE(4), OPERAND(5) in that order. -/
def Obligations.RsencEncodes : Prop :=
  (∀ w : Word, decode w = .ok .rsenc ↔ w = 0x1300) ∧
  (∀ s : State, s.err = false → s.gfv = true → 1 ≤ s.genlen.toNat → s.genlen.toNat ≤ 32 → s.dcwn.toNat ≤ 32 →
    ∃ c, exec .rsenc s = .next { s with ecc := c, eccn := BitVec.ofNat 6 (s.genlen.toNat - 1), done := true } ∧
      leading c (s.genlen.toNat - 1) =
        Spec.rsRemainder (gfMul s.exp s.log) (leading s.dcw s.dcwn.toNat) (leading s.gen s.genlen.toNat) ∧
      ∀ k, s.genlen.toNat - 1 ≤ k → entry c k = entry s.ecc k) ∧
  (∀ s : State, s.err = false → s.gfv = false → exec .rsenc s = .next (Spec.failed s .sequence 0x13 0x0001)) ∧
  (∀ s : State, s.err = false → s.gfv = true → s.genlen.toNat = 0 →
    exec .rsenc s = .next (Spec.failed s .sequence 0x13 0x0004)) ∧
  (∀ s : State, s.err = false → s.gfv = true → 1 ≤ s.genlen.toNat → 32 < s.dcwn.toNat →
    exec .rsenc s = .next (Spec.failed s .operand 0x13 0x0005))

/-- Data followed by its ECC codewords is divisible by the generator: the remainder is all zeros (R127); it holds for every
multiplication and every divisor that is not empty, monic or not. -/
def Obligations.DataWithEccIsDivisible : Prop :=
  ∀ (mul : Byte → Byte → Byte) (data g : List Byte), 1 ≤ g.length →
    pdivrem mul (data ++ rsRemainder mul data g) g = List.replicate (g.length - 1) 0

/-- Altering any single bit of the data changes the ECC codewords, for every symbol count from 1 to 31, the counts above 0 that
RSGEN takes (R129), and for data of any length. -/
def Obligations.SingleBitChangesTheEcc : Prop :=
  ∀ (e : Vector Byte 512) (l : Vector Byte 256), Spec.TablesBuilt e l →
    ∀ (n : Nat) (data : List Byte) (k j : Nat), 1 ≤ n → n ≤ 31 → k < data.length → j < 8 →
      rsRemainder (gfMul e l) (data.set k (data.getD k 0 ^^^ BitVec.twoPow 8 j)) (genpoly e (gfMul e l) n) ≠
        rsRemainder (gfMul e l) data (genpoly e (gfMul e l) n)

/-! ### The bit-stream formatter (R150 to R155) -/

/-- BSENC (R150, R151): with every payload entry below PLEN at most 255, BS takes the mode indicator, the count and the payload bytes,
most significant bit first, the bits beyond are kept, BLEN is 12 + 8 PLEN, BSST is RAW, and nothing else but DONE changes; else
ENCODING with the lowest offending index, and nothing is written. -/
def Obligations.BsencBuildsTheStream : Prop :=
  (∀ w : Word, decode w = .ok .bsenc ↔ w = 0x2000) ∧
  (∀ s : State, s.err = false → (∀ i, i < s.plen.toNat → (entry s.pay i).toNat ≤ 255) →
    ∃ b, exec .bsenc s = .next { s with bs := b, blen := BitVec.ofNat 12 (12 + 8 * s.plen.toNat), bsst := .raw, done := true } ∧
      (entry b 0 = false ∧ entry b 1 = true ∧ entry b 2 = false ∧ entry b 3 = false) ∧
      (∀ j, j < 8 → entry b (4 + j) = s.plen.getLsbD (7 - j)) ∧
      (∀ i j, i < s.plen.toNat → j < 8 → entry b (12 + 8 * i + j) = (entry s.pay i).getLsbD (7 - j)) ∧
      (∀ k, 12 + 8 * s.plen.toNat ≤ k → entry b k = entry s.bs k)) ∧
  (∀ (s : State) (i : Nat), s.err = false → i < s.plen.toNat → 255 < (entry s.pay i).toNat →
    (∀ j, j < i → (entry s.pay j).toNat ≤ 255) → exec .bsenc s = .next (Spec.failed s .encoding 0x20 (BitVec.ofNat 16 i)))

/-- `pad(s, total)` is the literal algorithm of R152, has exactly `total` bits, and begins with `s` unchanged. -/
def Obligations.PadFillsTheCapacity : Prop :=
  (∀ (b : List Bool) (total : Nat), pad b total = Spec.pad b total) ∧
  (∀ (b : List Bool) (total : Nat), total % 8 = 0 → b.length ≤ total →
    (pad b total).length = total ∧ (pad b total).take b.length = b)

/-- BSPAD (R153): a RAW stream of at most 152 bits is padded to 152, its own bits and the bits beyond 152 unchanged, BSST becomes
PADDED, and nothing else but DONE changes; SEQUENCE(2) without a RAW stream, then CAPACITY(BLEN). -/
def Obligations.BspadPadsTheStream : Prop :=
  (∀ w : Word, decode w = .ok .bspad ↔ w = 0x2100) ∧
  (∀ s : State, s.err = false → s.bsst = .raw → s.blen.toNat ≤ 152 →
    ∃ b, exec .bspad s = .next { s with bs := b, blen := 152, bsst := .padded, done := true } ∧
      leading b 152 = Spec.pad (leading s.bs s.blen.toNat) 152 ∧
      ∀ k, k < s.blen.toNat ∨ 152 ≤ k → entry b k = entry s.bs k) ∧
  (∀ s : State, s.err = false → s.bsst ≠ .raw → exec .bspad s = .next (Spec.failed s .sequence 0x21 0x0002)) ∧
  (∀ s : State, s.err = false → s.bsst = .raw → 152 < s.blen.toNat →
    exec .bspad s = .next (Spec.failed s .capacity 0x21 (BitVec.ofNat 16 s.blen.toNat)))

/-- BSSPLIT (R155): codeword k is bits 8k..8k+7 of the padded stream, the first the most significant, DCWN is 19, the codewords
concatenate back to the stream, the entries beyond are kept, and nothing else but DONE changes; SEQUENCE(2) without a PADDED
stream. -/
def Obligations.BssplitSplitsTheStream : Prop :=
  (∀ w : Word, decode w = .ok .bssplit ↔ w = 0x2200) ∧
  (∀ s : State, s.err = false → s.bsst = .padded →
    ∃ d, exec .bssplit s = .next { s with dcw := d, dcwn := 19, done := true } ∧
      (∀ k j, k < 19 → j < 8 → (entry d k).getLsbD (7 - j) = entry s.bs (8 * k + j)) ∧
      (leading d 19).flatMap msb8 = leading s.bs 152 ∧ ∀ k, 19 ≤ k → entry d k = entry s.dcw k) ∧
  (∀ s : State, s.err = false → s.bsst ≠ .padded → exec .bssplit s = .next (Spec.failed s .sequence 0x22 0x0002))

/-! ### The matrix builder (R170 to R181) -/

/-- MXINIT (R171): at any stage every cell becomes 0 and unreserved, MXS becomes 1, and nothing else but DONE changes. -/
def Obligations.MxinitClearsTheMatrix : Prop :=
  (∀ w : Word, decode w = .ok .mxinit ↔ w = 0x3000) ∧
  (∀ s : State, s.err = false →
    ∃ m, exec .mxinit s = .next { s with mx := m, mxs := 1, done := true } ∧
      ∀ r c, r < 21 → c < 21 → Spec.cellAt m r c = ⟨false, false, false⟩)

/-- MXFIND (R172): after stage 1 the matrix becomes what the literal loops leave, which is the finder patterns and separators of the
picture, reserved, D kept, and every other cell kept; nothing else but MXS and DONE changes; SEQUENCE(3) at any other stage. -/
def Obligations.MxfindPlacesTheFinders : Prop :=
  (∀ w : Word, decode w = .ok .mxfind ↔ w = 0x3100) ∧
  (∀ s : State, s.err = false → s.mxs = 1 →
    ∃ m, exec .mxfind s = .next { s with mx := m, mxs := 2, done := true } ∧ m = Spec.findLoop s.mx ∧
      ∀ r c, r < 21 → c < 21 → Spec.cellAt m r c =
        if Spec.mark r c = 1 ∨ Spec.mark r c = 2 ∨ Spec.mark r c = 3 then ⟨Spec.mark r c == 1, true, (Spec.cellAt s.mx r c).d⟩
        else Spec.cellAt s.mx r c) ∧
  (∀ s : State, s.err = false → s.mxs ≠ 1 → exec .mxfind s = .next (Spec.failed s .sequence 0x31 0x0003))

/-- MXTIME (R173): after stage 2 the cells of row 6 and column 6 at indices 8..12 take (index + 1) mod 2 and become reserved, every
other cell is kept, and nothing else but MXS and DONE changes; SEQUENCE(3) at any other stage. -/
def Obligations.MxtimePlacesTheTimingLines : Prop :=
  (∀ w : Word, decode w = .ok .mxtime ↔ w = 0x3200) ∧
  (∀ s : State, s.err = false → s.mxs = 2 →
    ∃ m, exec .mxtime s = .next { s with mx := m, mxs := 3, done := true } ∧
      ∀ r c, r < 21 → c < 21 → Spec.cellAt m r c =
        if r = 6 ∧ 8 ≤ c ∧ c ≤ 12 then ⟨(c + 1) % 2 == 1, true, (Spec.cellAt s.mx r c).d⟩
        else if c = 6 ∧ 8 ≤ r ∧ r ≤ 12 then ⟨(r + 1) % 2 == 1, true, (Spec.cellAt s.mx r c).d⟩
        else Spec.cellAt s.mx r c) ∧
  (∀ s : State, s.err = false → s.mxs ≠ 2 → exec .mxtime s = .next (Spec.failed s .sequence 0x32 0x0003))

/-- MXFRSV (R174): after stage 3 the 31 format cells become reserved with V and D kept, every other cell is kept, and nothing else
but MXS and DONE changes; SEQUENCE(3) at any other stage. -/
def Obligations.MxfrsvReservesTheFormatCells : Prop :=
  (∀ w : Word, decode w = .ok .mxfrsv ↔ w = 0x3300) ∧
  (∀ s : State, s.err = false → s.mxs = 3 →
    ∃ m, exec .mxfrsv s = .next { s with mx := m, mxs := 4, done := true } ∧
      ∀ r c, r < 21 → c < 21 → Spec.cellAt m r c =
        if (r = 8 ∧ (c ≤ 8 ∧ c ≠ 6 ∨ 13 ≤ c)) ∨ (c = 8 ∧ (r ≤ 8 ∧ r ≠ 6 ∨ 13 ≤ r)) then { Spec.cellAt s.mx r c with r := true }
        else Spec.cellAt s.mx r c) ∧
  (∀ s : State, s.err = false → s.mxs ≠ 3 → exec .mxfrsv s = .next (Spec.failed s .sequence 0x33 0x0003))

/-- The matrix after the first four stages is the picture of R180, from any state with no error pending. -/
def Obligations.MatrixAfterStageFourIsThePicture : Prop :=
  ∀ s : State, s.err = false →
    ∃ t, Spec.execAll [.mxinit, .mxfind, .mxtime, .mxfrsv] s = .next t ∧ t.err = false ∧ t.mxs = 4 ∧
      ∀ r c, r < 21 → c < 21 →
        Spec.cellAt t.mx r c = ⟨Spec.mark r c == 1 || Spec.mark r c == 4, Spec.mark r c != 0, false⟩

/-- MXPLACE (R175, R178): after stage 4 and with 26 codewords the matrix becomes what the literal zigzag loop leaves on the codeword
bit stream, and nothing else but MXS and DONE changes; SEQUENCE(3) at any other stage, then LENGTH. -/
def Obligations.MxplaceRunsTheZigzag : Prop :=
  (∀ w : Word, decode w = .ok .mxplace ↔ w = 0x3400) ∧
  (∀ s : State, s.err = false → s.mxs = 4 → 8 * (s.dcwn.toNat + s.eccn.toNat) = 208 →
    exec .mxplace s = .next { s with
      mx := Spec.placeLoop ((leading s.dcw s.dcwn.toNat ++ leading s.ecc s.eccn.toNat).flatMap msb8) s.mx
      mxs := 5
      done := true }) ∧
  (∀ s : State, s.err = false → s.mxs ≠ 4 → exec .mxplace s = .next (Spec.failed s .sequence 0x34 0x0003)) ∧
  (∀ s : State, s.err = false → s.mxs = 4 → 8 * (s.dcwn.toNat + s.eccn.toNat) ≠ 208 →
    exec .mxplace s = .next (Spec.failed s .length 0x34 (BitVec.ofNat 16 (8 * (s.dcwn.toNat + s.eccn.toNat)))))

/-- The visiting order of MXPLACE is the printed one (R179).  In a matrix reserved as the picture of R180 the command puts bits 7
down to 0 of codeword n, first the data codewords and then the ECC codewords, into the n-th eight printed cells, which become reserved
data cells; every other cell is kept, and nothing else but MXS and DONE changes.  The same of the machine's placement of any stream
of bits, of which missing bits count as 0 and which is the literal loop of R175. -/
def Obligations.PlacementFollowsThePrintedOrder : Prop :=
  (∀ s : State, s.err = false → s.mxs = 4 → s.dcwn.toNat + s.eccn.toNat = 26 →
    (∀ r c, r < 21 → c < 21 → (Spec.cellAt s.mx r c).r = (Spec.mark r c != 0)) →
      ∃ m, exec .mxplace s = .next { s with mx := m, mxs := 5, done := true } ∧
        (∀ n j, n < 26 → j < 8 →
          Spec.cellAt m (Spec.visitOrder.getD (8 * n + j) (0, 0)).1 (Spec.visitOrder.getD (8 * n + j) (0, 0)).2 =
            ⟨(if n < s.dcwn.toNat then entry s.dcw n else entry s.ecc (n - s.dcwn.toNat)).getLsbD (7 - j), true, true⟩) ∧
        (∀ r c, r < 21 → c < 21 → Spec.mark r c ≠ 0 → Spec.cellAt m r c = Spec.cellAt s.mx r c)) ∧
  (∀ (stream : List Bool) (mx : Vector Cell 441),
    placeBits stream mx = Spec.placeLoop stream mx ∧
    ((∀ r c, r < 21 → c < 21 → (Spec.cellAt mx r c).r = (Spec.mark r c != 0)) →
      (∀ k, k < 208 → Spec.cellAt (placeBits stream mx) (Spec.visitOrder.getD k (0, 0)).1 (Spec.visitOrder.getD k (0, 0)).2 =
        ⟨stream.getD k false, true, true⟩) ∧
      (∀ r c, r < 21 → c < 21 → Spec.mark r c ≠ 0 → Spec.cellAt (placeBits stream mx) r c = Spec.cellAt mx r c)))

/-- MXMASK (R176): after stage 5 V is flipped in the data cells with an even row + column, R, D and every other cell are kept, and
nothing else but MXS and DONE changes; SEQUENCE(3) at any other stage; 104 of the 208 data cells have an even sum. -/
def Obligations.MxmaskFlipsTheEvenDataCells : Prop :=
  (∀ w : Word, decode w = .ok .mxmask ↔ w = 0x3500) ∧
  (∀ s : State, s.err = false → s.mxs = 5 →
    ∃ m, exec .mxmask s = .next { s with mx := m, mxs := 6, done := true } ∧
      ∀ r c, r < 21 → c < 21 → Spec.cellAt m r c =
        if (Spec.cellAt s.mx r c).d = true ∧ (r + c) % 2 = 0
        then { Spec.cellAt s.mx r c with v := !(Spec.cellAt s.mx r c).v } else Spec.cellAt s.mx r c) ∧
  (∀ s : State, s.err = false → s.mxs ≠ 5 → exec .mxmask s = .next (Spec.failed s .sequence 0x35 0x0003)) ∧
  (Spec.visitOrder.filter fun rc => (rc.1 + rc.2) % 2 == 0).length = 104

/-- MXFMT (R177): after stage 6 each of the 31 cells of the printed table takes its bit of FMT, which is also what the literal writes
leave, R, D and every other cell are kept, and nothing else but MXS and DONE changes; SEQUENCE(3) at any other stage. -/
def Obligations.MxfmtWritesTheFormatBits : Prop :=
  (∀ w : Word, decode w = .ok .mxfmt ↔ w = 0x3600) ∧
  (∀ s : State, s.err = false → s.mxs = 6 →
    ∃ m, exec .mxfmt s = .next { s with mx := m, mxs := 7, done := true } ∧ m = Spec.formatLoop s.fmt s.mx ∧
      (∀ b r c, (b, r, c) ∈ Spec.formatCells → Spec.cellAt m r c = { Spec.cellAt s.mx r c with v := s.fmt.getLsbD b }) ∧
      (∀ r c, r < 21 → c < 21 → (∀ b, (b, r, c) ∉ Spec.formatCells) → Spec.cellAt m r c = Spec.cellAt s.mx r c)) ∧
  (∀ s : State, s.err = false → s.mxs ≠ 6 → exec .mxfmt s = .next (Spec.failed s .sequence 0x36 0x0003))

/-- MXS (R40): a stage command that succeeds advances it by exactly 1 from the stage before its own, MXINIT sets it to 1, a
successful ENCODE to 7; every other command, and every failing or ignored command, leaves it. -/
def Obligations.MatrixStageAdvancesInOrder : Prop :=
  ∀ (i : Instr) (s t : State), exec i s = .next t →
    (t.err = true → t.mxs = s.mxs) ∧
    (t.err = false →
      match i with
      | .mxinit => t.mxs = 1
      | .mxfind => s.mxs = 1 ∧ t.mxs = 2
      | .mxtime => s.mxs = 2 ∧ t.mxs = 3
      | .mxfrsv => s.mxs = 3 ∧ t.mxs = 4
      | .mxplace => s.mxs = 4 ∧ t.mxs = 5
      | .mxmask => s.mxs = 5 ∧ t.mxs = 6
      | .mxfmt => s.mxs = 6 ∧ t.mxs = 7
      | .encode => t.mxs = 7
      | _ => t.mxs = s.mxs)

/-! ### ENCODE (R202, R203) -/

/-- THE LAW OF R203: with the tables built and no error pending, ENCODE leaves exactly the state that the twelve-command script
leaves, also when one of the twelve fails. -/
def Obligations.EncodeEqualsTheTwelveCommands : Prop :=
  ∀ s : State, s.err = false → s.gfv = true → exec .encode s = Spec.execAll Spec.encodeScript s

/-- ENCODE completes for every payload of at most 17 bytes (R202, with TOTAL_BITS and NSYM at their defaults, log 2): BSST is 2,
MXS 7, DONE 1, BLEN 152, DCWN 19, GENLEN 8, ECCN 7; the
files hold the padded stream, its codewords, the generator and the remainder; every cell is reserved (R42); nothing outside the
files and registers named changes. -/
def Obligations.EncodeCompletes : Prop :=
  ∀ s : State, s.err = false → s.gfv = true → s.plen.toNat ≤ 17 → (∀ i, i < s.plen.toNat → (entry s.pay i).toNat ≤ 255) →
    ∃ b d g c m, exec .encode s = .next { s with
        bs := b, blen := 152, bsst := .padded, dcw := d, dcwn := 19, gen := g, genlen := 8, ecc := c, eccn := 7, mx := m, mxs := 7
        done := true } ∧
      leading b 152 = Spec.pad (rawBits s.plen (leading s.pay s.plen.toNat)) 152 ∧
      (leading d 19).flatMap msb8 = leading b 152 ∧
      leading g 8 = Spec.genpoly s.exp (gfMul s.exp s.log) 7 ∧
      leading c 7 = Spec.rsRemainder (gfMul s.exp s.log) (leading d 19) (leading g 8) ∧
      (∀ r c, r < 21 → c < 21 → (Spec.cellAt m r c).r = true) ∧
      ((∀ k, 152 ≤ k → entry b k = entry s.bs k) ∧ (∀ k, 19 ≤ k → entry d k = entry s.dcw k) ∧
        (∀ k, 8 ≤ k → entry g k = entry s.gen k) ∧ (∀ k, 7 ≤ k → entry c k = entry s.ecc k))

/-- ENCODE when it fails (R202, R203): without tables SEQUENCE(1) with its own opcode; an unrepresentable character gives ENCODING
from BSENC with nothing else changed; 18 bytes or more give CAPACITY from BSPAD with BSENC's effects kept and nothing else
changed. -/
def Obligations.EncodeFailures : Prop :=
  (∀ s : State, s.err = false → s.gfv = false → exec .encode s = .next (Spec.failed s .sequence 0x40 0x0001)) ∧
  (∀ (s : State) (i : Nat), s.err = false → s.gfv = true → i < s.plen.toNat → 255 < (entry s.pay i).toNat →
    (∀ j, j < i → (entry s.pay j).toNat ≤ 255) → exec .encode s = .next (Spec.failed s .encoding 0x20 (BitVec.ofNat 16 i))) ∧
  (∀ s : State, s.err = false → s.gfv = true → 18 ≤ s.plen.toNat → (∀ i, i < s.plen.toNat → (entry s.pay i).toNat ≤ 255) →
    ∃ b, exec .encode s = .next (Spec.failed
        { s with bs := b, blen := BitVec.ofNat 12 (12 + 8 * s.plen.toNat), bsst := .raw }
        .capacity 0x21 (BitVec.ofNat 16 (12 + 8 * s.plen.toNat))) ∧
      leading b (12 + 8 * s.plen.toNat) = rawBits s.plen (leading s.pay s.plen.toNat) ∧
      ∀ k, 12 + 8 * s.plen.toNat ≤ k → entry b k = entry s.bs k)

/-- The finished matrix (R181): after a successful ENCODE every finder, separator and timing cell has the fixed pattern's value
whatever the payload, each format cell has its bit of FMT, and exactly the unreserved cells of the picture are data cells. -/
def Obligations.EncodeFixedCellsAreTheFixedPattern : Prop :=
  ∀ s t : State, s.err = false → exec .encode s = .next t → t.err = false →
    (∀ r c, r < 21 → c < 21 → (Spec.mark r c = 1 ∨ Spec.mark r c = 4) → Spec.cellAt t.mx r c = ⟨true, true, false⟩) ∧
    (∀ r c, r < 21 → c < 21 → (Spec.mark r c = 2 ∨ Spec.mark r c = 3 ∨ Spec.mark r c = 5) →
      Spec.cellAt t.mx r c = ⟨false, true, false⟩) ∧
    (∀ b r c, (b, r, c) ∈ Spec.formatCells → Spec.cellAt t.mx r c = ⟨s.fmt.getLsbD b, true, false⟩) ∧
    (∀ r c, r < 21 → c < 21 → Spec.mark r c = 0 → (Spec.cellAt t.mx r c).r = true ∧ (Spec.cellAt t.mx r c).d = true)

/-- With no error pending and FMT equal in both states, two payloads of one length that ENCODE accepts and that differ in an entry
give matrices that agree in every cell that is not a data cell and differ in at least one data cell (R181). -/
def Obligations.DifferentPayloadsDifferInDataCells : Prop :=
  ∀ s₁ s₂ t₁ t₂ : State, s₁.err = false → s₂.err = false → s₁.plen = s₂.plen → s₁.fmt = s₂.fmt →
    (∃ i, i < s₁.plen.toNat ∧ entry s₁.pay i ≠ entry s₂.pay i) →
    exec .encode s₁ = .next t₁ → exec .encode s₂ = .next t₂ → t₁.err = false → t₂.err = false →
    (∀ r c, r < 21 → c < 21 → Spec.mark r c ≠ 0 → Spec.cellAt t₁.mx r c = Spec.cellAt t₂.mx r c) ∧
    (∃ r c, r < 21 ∧ c < 21 ∧ Spec.mark r c = 0 ∧ (Spec.cellAt t₁.mx r c).v ≠ (Spec.cellAt t₂.mx r c).v)

/-- ENCODE is a function of the payload, FMT and the tables alone (R8, R252): two states that agree on PLEN, the payload below it and
FMT, with the tables built in both, raise the same error or end with the same stream, codewords, generator and matrix, whatever
else the files hold, the unspecified reset contents among it. -/
def Obligations.EncodeDependsOnThePayloadOnly : Prop :=
  ∀ s₁ s₂ t₁ t₂ : State, s₁.err = false → s₂.err = false → s₁.gfv = true → s₂.gfv = true →
    Spec.TablesBuilt s₁.exp s₁.log → Spec.TablesBuilt s₂.exp s₂.log →
    s₁.plen = s₂.plen → (∀ i, i < s₁.plen.toNat → entry s₁.pay i = entry s₂.pay i) → s₁.fmt = s₂.fmt →
    exec .encode s₁ = .next t₁ → exec .encode s₂ = .next t₂ →
    t₁.err = t₂.err ∧
    (t₁.err = true → t₁.cause = t₂.cause ∧ t₁.stage = t₂.stage ∧ t₁.info = t₂.info) ∧
    (t₁.err = false →
      leading t₁.bs 152 = leading t₂.bs 152 ∧ leading t₁.dcw 19 = leading t₂.dcw 19 ∧ leading t₁.gen 8 = leading t₂.gen 8 ∧
        leading t₁.ecc 7 = leading t₂.ecc 7 ∧ t₁.mx = t₂.mx)

/-! ### Frames (R73) -/

/-- What the control and GF commands leave unchanged (R73): every location outside their "writes" column reads as before, success or
failure, and BSST, MXS and (but for GFBUILD) GFV are as before. -/
def Obligations.FrameOfControlAndGf : Prop :=
  ∀ (i : Instr) (s t : State), i ∈ [Instr.nop, .clrerr, .gfbuild, .gfmul] → exec i s = .next t →
    Spec.OnlyWrites i s t ∧ t.bsst = s.bsst ∧ t.mxs = s.mxs ∧ (i ≠ .gfbuild → t.gfv = s.gfv)

/-- What PMUL, PDIV, RSGEN and RSENC leave unchanged (R73): every location outside their "writes" column, and GFV, BSST and MXS. -/
def Obligations.FrameOfReedSolomon : Prop :=
  ∀ (i : Instr) (s t : State), (i = .pmul ∨ i = .pdiv ∨ (∃ n, i = .rsgen n) ∨ i = .rsenc) → exec i s = .next t →
    Spec.OnlyWrites i s t ∧ t.gfv = s.gfv ∧ t.bsst = s.bsst ∧ t.mxs = s.mxs

/-- What BSENC, BSPAD and BSSPLIT leave unchanged (R73): every location outside their "writes" column, GFV and MXS, and for BSSPLIT
BSST. -/
def Obligations.FrameOfBitStream : Prop :=
  ∀ (i : Instr) (s t : State), i ∈ [Instr.bsenc, .bspad, .bssplit] → exec i s = .next t →
    Spec.OnlyWrites i s t ∧ t.gfv = s.gfv ∧ t.mxs = s.mxs ∧ (i = .bssplit → t.bsst = s.bsst)

/-- What the seven matrix commands leave unchanged (R73): every location outside their "writes" column (MXFIND's 192 cells, MXTIME's
10, MXFRSV's and MXFMT's 31, MXPLACE's cells with R = 0, MXMASK's data cells with an even sum), GFV and BSST; MXFRSV keeps every V,
MXMASK and MXFMT keep every R and D. -/
def Obligations.FrameOfMatrix : Prop :=
  ∀ (i : Instr) (s t : State), i ∈ [Instr.mxinit, .mxfind, .mxtime, .mxfrsv, .mxplace, .mxmask, .mxfmt] → exec i s = .next t →
    Spec.OnlyWrites i s t ∧ t.gfv = s.gfv ∧ t.bsst = s.bsst ∧
      (i = .mxfrsv → ∀ r c, r < 21 → c < 21 → (Spec.cellAt t.mx r c).v = (Spec.cellAt s.mx r c).v) ∧
      (i = .mxmask ∨ i = .mxfmt → ∀ r c, r < 21 → c < 21 →
        (Spec.cellAt t.mx r c).r = (Spec.cellAt s.mx r c).r ∧ (Spec.cellAt t.mx r c).d = (Spec.cellAt s.mx r c).d)

/-- What ENCODE leaves unchanged, success or failure (R73): every location outside its "writes" column, and GFV; when it fails MX and
MXS too (R203). -/
def Obligations.FrameOfEncode : Prop :=
  ∀ s t : State, exec .encode s = .next t →
    Spec.OnlyWrites .encode s t ∧ t.gfv = s.gfv ∧ (t.err = true → t.mx = s.mx ∧ t.mxs = s.mxs)

/-! ### Invariants -/

/-- THE INVARIANT HOLDS AFTER RESET, whatever the files hold (R251, R252). -/
def Obligations.InvariantHoldsAfterReset : Prop := ∀ epoch, Spec.Inv (State.afterReset epoch)

/-- EVERY STEP KEEPS THE INVARIANT: ERR agrees with CAUSE (R25), ERR and INFO are 0 without an error (R27, R28), GFV says that the
tables are built (R106), BSST and BLEN agree (R31, R42), the generator is what GENLEN says (R126), and every matrix cell fits the
stage in MXS, so that no cell is unreserved and dark before placement (R40, R43). -/
def Obligations.EveryStepKeepsTheInvariant : Prop := ∀ s t : State, Spec.Inv s → step s = .next t → Spec.Inv t
end

