-- ==== Sys2Proof/Laws/Files.lean ====
section
/-! SUPPORT. What each operation on a register file does, entry by entry. -/

namespace Sys2Proof.Machine

variable {α : Type} {n : Nat}

theorem getElem_tabulate (f : Nat → α) (k : Nat) (h : k < n) : (tabulate n f)[k] = f k := by
  simp [tabulate]

theorem entry_eq_getElem [Inhabited α] (x : Vector α n) (k : Nat) (h : k < n) : entry x k = x[k] := by
  simp [entry, List.getD, h]

theorem entry_of_le [Inhabited α] (x : Vector α n) (k : Nat) (h : n ≤ k) : entry x k = default := by
  simp [entry, List.getD, h]

@[simp] theorem entry_tabulate [Inhabited α] (f : Nat → α) (k : Nat) (h : k < n) : entry (tabulate n f) k = f k := by
  rw [entry_eq_getElem _ _ h, getElem_tabulate]

/-- Two files with the same entries are the same file. -/
theorem file_ext [Inhabited α] {x y : Vector α n} (h : ∀ k, k < n → entry x k = entry y k) : x = y := by
  ext k hk
  simpa [entry_eq_getElem, hk] using h k hk

theorem entry_setEntry [Inhabited α] (x : Vector α n) (i : Nat) (v : α) (k : Nat) :
    entry (setEntry x i v) k = if k = i ∧ i < n then v else entry x k := by
  by_cases hk : k < n
  · by_cases hi : k = i
    · subst hi; simp [entry, setEntry, hk]
    · simp [entry, setEntry, List.getD, Ne.symm hi, hi]
  · have : ¬ (k = i ∧ i < n) := by omega
    rw [entry_of_le _ _ (by omega), if_neg this, entry_of_le _ _ (by omega)]

theorem getElem_mapEntries (f : Nat → α → α) (x : Vector α n) (k : Nat) (h : k < n) :
    (mapEntries f x)[k] = f k x[k] := by
  simp [mapEntries]

theorem entry_mapEntries [Inhabited α] (f : Nat → α → α) (x : Vector α n) (k : Nat) (h : k < n) :
    entry (mapEntries f x) k = f k (entry x k) := by
  rw [entry_eq_getElem _ _ h, entry_eq_getElem _ _ h, getElem_mapEntries]

/-- A run of writes: what entry `k` holds after it. -/
theorem entry_writeRun [Inhabited α] (x : Vector α n) (base : Nat) (vs : List α) (k : Nat) (h : k < n) :
    entry (writeRun x base vs) k = if base ≤ k then vs.getD (k - base) (entry x k) else entry x k := by
  rw [writeRun, entry_mapEntries _ _ _ h]

/-- A run of writes writes its values. -/
theorem entry_writeRun_inside [Inhabited α] (x : Vector α n) (base : Nat) (vs : List α) (k : Nat) (h : k < n)
    (hb : base ≤ k) (hl : k - base < vs.length) : entry (writeRun x base vs) k = vs[k - base] := by
  rw [entry_writeRun _ _ _ _ h, if_pos hb, List.getD_eq_getElem _ _ hl]

/-- A run of writes leaves every other entry alone. -/
theorem entry_writeRun_outside [Inhabited α] (x : Vector α n) (base : Nat) (vs : List α) (k : Nat)
    (ho : k < base ∨ base + vs.length ≤ k) : entry (writeRun x base vs) k = entry x k := by
  by_cases h : k < n
  · rw [entry_writeRun _ _ _ _ h]
    split
    · rw [List.getD_eq_default _ _ (by omega)]
    · rfl
  · rw [entry_of_le _ _ (by omega), entry_of_le _ _ (by omega)]

@[simp] theorem writeRun_nil (x : Vector α n) (base : Nat) : writeRun x base [] = x := by
  ext k hk
  rw [writeRun, getElem_mapEntries]; simp

@[simp] theorem length_leading (x : Vector α n) (len : Nat) : (leading x len).length = min len n := by
  simp [leading]

theorem getElem_leading [Inhabited α] (x : Vector α n) (len k : Nat) (h : k < (leading x len).length) :
    (leading x len)[k] = entry x k := by
  have hk : k < n := by simp at h; omega
  rw [entry_eq_getElem _ _ hk]; simp [leading]

theorem getD_leading [Inhabited α] (x : Vector α n) (len k : Nat) (h : k < len) :
    (leading x len).getD k default = entry x k := by
  by_cases hk : k < n
  · rw [List.getD_eq_getElem _ _ (by simp; omega), getElem_leading]
  · rw [entry_of_le _ _ (by omega), List.getD_eq_default _ _ (by simp; omega)]

/-- Two files with the same leading entries have the same leading sequence. -/
theorem leading_congr [Inhabited α] {m : Nat} {x : Vector α n} {y : Vector α m} {len : Nat} (hx : len ≤ n) (hy : len ≤ m)
    (h : ∀ k, k < len → entry x k = entry y k) : leading x len = leading y len := by
  apply List.ext_getElem
  · simp; omega
  · intro k h1 h2
    rw [getElem_leading, getElem_leading]
    exact h k (by simp at h1; omega)

end Sys2Proof.Machine
end

