-- ==== Sys2Proof/Laws/BitStream.lean ====
section
/-! SUPPORT. Lengths and inverses of the bit-stream functions. -/

namespace Sys2Proof.Machine

@[simp] theorem length_msb8 (v : Byte) : (msb8 v).length = 8 := by simp [msb8]

theorem getElem_msb8 (v : Byte) (j : Nat) (h : j < (msb8 v).length) : (msb8 v)[j] = v.getLsbD (7 - j) := by
  simp [msb8]

/-- `byte` is the inverse of `msb8` (R11). -/
theorem byteOf_msb8 (v : Byte) : byteOf (msb8 v) = v := by
  revert v; decide +kernel

/-- `msb8` is the inverse of `byte` on eight bits (R11). -/
theorem msb8_byteOf (b : List Bool) (h : b.length = 8) : msb8 (byteOf b) = b := by
  obtain ⟨a0, a1, a2, a3, a4, a5, a6, a7, rfl⟩ : ∃ a0 a1 a2 a3 a4 a5 a6 a7, b = [a0, a1, a2, a3, a4, a5, a6, a7] := by
    match b, h with
    | [a0, a1, a2, a3, a4, a5, a6, a7], _ => exact ⟨a0, a1, a2, a3, a4, a5, a6, a7, rfl⟩
  revert a0 a1 a2 a3 a4 a5 a6 a7; decide +kernel

theorem length_flatMap_msb8 (l : List Byte) : (l.flatMap msb8).length = 8 * l.length := by
  induction l with
  | nil => rfl
  | cons a l ih => simp [ih]; omega

theorem length_payOperand (s : State) : (payOperand s).length = s.plen.toNat := by
  have : s.plen.toNat < 256 := s.plen.isLt
  simp [payOperand]; omega

theorem length_rawBits (plen : BitVec 8) (p : List (BitVec 9)) : (rawBits plen p).length = 12 + 8 * p.length := by
  have : ∀ p : List (BitVec 9), (p.flatMap fun x => msb8 (x.setWidth 8)).length = 8 * p.length := by
    intro p
    induction p with
    | nil => rfl
    | cons a l ih => simp [ih]; omega
  simp [rawBits, this, Config.modeByte]; omega

theorem length_padCodewords (n : Nat) : (padCodewords n).length = 8 * n := by
  simp [padCodewords, List.length_flatMap, Nat.mul_comm]

@[simp] theorem length_splitCodewords (b : List Bool) (n : Nat) : (splitCodewords b n).length = n := by
  simp [splitCodewords]

end Sys2Proof.Machine
end

