-- ==== Sys2Proof/Laws/Gf.lean ====
section
/-! SUPPORT. The tables GFBUILD builds: entry by entry, and that they are what the literal loop of R101 leaves. -/

namespace Sys2Proof.Machine

@[simp] theorem length_gfPowers (n : Nat) (x : BitVec 9) : (gfPowers n x).length = n := by
  induction n generalizing x with
  | zero => rfl
  | succ n ih => simp [gfPowers, ih]

/-- EXP after R101, entry by entry: the powers, then their copy, then what was there. -/
theorem entry_buildExp (exp : Vector Byte 512) (k : Nat) (h : k < 512) :
    entry (buildExp exp) k =
      if k < 255 then ((gfPowers 255 1).map fun x => x.setWidth 8).getD k 0
      else if k < 510 then ((gfPowers 255 1).map fun x => x.setWidth 8).getD (k - 255) 0
      else entry exp k := by
  unfold buildExp
  dsimp only
  have hl : ((gfPowers 255 1).map fun x => x.setWidth 8 : List Byte).length = 255 := by simp
  generalize ((gfPowers 255 1).map fun x => x.setWidth 8 : List Byte) = p at hl
  have first : ∀ k, k < 255 → entry (writeRun exp 0 p) k = p.getD k 0 := fun k hk => by
    rw [entry_writeRun_inside _ _ _ _ (by omega) (by omega) (by omega), List.getD_eq_getElem _ _ (by omega)]; simp
  by_cases h1 : k < 255
  · rw [entry_writeRun_outside _ _ _ _ (by omega), if_pos h1, first k h1]
  · rw [if_neg h1]
    by_cases h2 : k < 510
    · rw [if_pos h2, entry_writeRun_inside _ _ _ _ h (by omega) (by simp; omega), getElem_leading, first _ (by omega)]
    · rw [if_neg h2, entry_writeRun_outside _ _ _ _ (by simp; omega), entry_writeRun_outside _ _ _ _ (by omega)]

/-- LOG after R101, entry by entry. -/
theorem entry_buildLog (log : Vector Byte 256) (a : Nat) (h : a < 256) :
    entry (buildLog log) a =
      match (gfPowers 255 1).findIdx? fun x => x.toNat == a with
      | some i => BitVec.ofNat 8 i
      | none => entry log a := entry_mapEntries _ _ _ h

/-- A list whose entries each follow from the one before by doubling holds the powers. -/
theorem gfPowers_of_steps (L : List (BitVec 9)) (x : BitVec 9) (hx : ∀ y ∈ L.head?, y = x)
    (h : (L.zip L.tail).all (fun p => (gfDouble p.1).toNat == p.2.toNat) = true) : gfPowers L.length x = L := by
  induction L generalizing x with
  | nil => rfl
  | cons y L ih =>
    obtain rfl : y = x := hx y rfl
    rw [List.length_cons, gfPowers, ih (gfDouble y)]
    · intro z hz
      cases L with
      | nil => simp at hz
      | cons z' L => simp at hz; subst hz; exact (BitVec.eq_of_toNat_eq (beq_iff_eq.1 (List.all_eq_true.1 h (y, z') (by simp)))).symm
    · refine List.all_eq_true.2 fun q hq => ?_
      cases L with
      | nil => simp at hq
      | cons z L => exact List.all_eq_true.1 h q (by simp at hq ⊢; exact .inr hq)

/-- The powers are the printed EXP table (R102). -/
theorem gfPowers_eq : gfPowers 255 1 = Spec.expTable.map fun x => x.setWidth 9 := by
  have h := gfPowers_of_steps (Spec.expTable.map fun x => x.setWidth 9) 1 (by decide +kernel) (by decide +kernel)
  rwa [List.length_map, show Spec.expTable.length = 255 by decide +kernel] at h

theorem gfPowers_eq_expTable : ((gfPowers 255 1).map fun x => x.setWidth 8) = Spec.expTable := by
  rw [gfPowers_eq, List.map_map, List.map_congr_left (g := id), List.map_id]
  intro x _
  simp

/-- The printed LOG table inverts the printed EXP table: no power comes twice (R102). -/
theorem log_of_expTable : (Spec.expTable.map fun x => (Spec.logTable.getD x.toNat 0).toNat) = List.range 255 := by decide +kernel

theorem expTable_nodup : (Spec.expTable.map BitVec.toNat).Nodup := by
  refine List.Nodup.of_map (fun a => (Spec.logTable.getD a 0).toNat) ?_
  rw [List.map_map]
  exact log_of_expTable ▸ List.nodup_range

theorem expTable_ne_zero : 0 ∉ Spec.expTable.map BitVec.toNat := by decide +kernel

theorem gfPowers_toNat : (gfPowers 255 1).map BitVec.toNat = Spec.expTable.map BitVec.toNat := by
  rw [gfPowers_eq, List.map_map]
  refine List.map_congr_left fun x _ => ?_
  simp
  omega

/-- Each index but 0 is a power, at the place the printed LOG table says (R102). -/
theorem exp_of_logTable : ((Spec.logTable.tail.map fun l => (Spec.expTable.getD l.toNat 0).toNat)) = List.range' 1 255 := by
  decide +kernel

/-! ### The literal loop of R101 -/

theorem entry_gfFill_exp (n i : Nat) (x : BitVec 9) (e : Vector Byte 512) (l : Vector Byte 256) (h : i + n ≤ 512) (k : Nat) :
    entry (Spec.gfFill n i x e l).1 k =
      if i ≤ k ∧ k < i + n then ((gfPowers n x).map fun x => x.setWidth 8).getD (k - i) 0 else entry e k := by
  induction n generalizing i x e l with
  | zero => simp [Spec.gfFill]
  | succ n ih =>
    rw [Spec.gfFill, ih (i + 1) _ _ _ (by omega), entry_setEntry]
    by_cases h1 : k = i
    · subst h1; simp [gfPowers, show k < 512 by omega]
    · by_cases h2 : i + 1 ≤ k ∧ k < i + 1 + n
      · rw [if_pos h2, if_pos (by omega), gfPowers, List.map_cons]
        obtain ⟨j, rfl⟩ : ∃ j, k = i + 1 + j := ⟨k - (i + 1), by omega⟩
        have e1 : i + 1 + j - (i + 1) = j := by omega
        have e2 : i + 1 + j - i = j + 1 := by omega
        rw [e1, e2]; simp [List.getD]
      · rw [if_neg h2, if_neg (by omega), if_neg (by omega)]

/-- What the first loop leaves at LOG[a]: the last iteration whose `x` was `a`. -/
theorem entry_gfFill_log (n i : Nat) (x : BitVec 9) (e : Vector Byte 512) (l : Vector Byte 256) (a : Nat) (ha : a < 256) :
    entry (Spec.gfFill n i x e l).2 a =
      ((gfPowers n x).zipIdx i).foldl (fun old p => if p.1.toNat = a then BitVec.ofNat 8 p.2 else old) (entry l a) := by
  induction n generalizing i x e l with
  | zero => simp [Spec.gfFill, gfPowers]
  | succ n ih =>
    rw [Spec.gfFill, ih, gfPowers, List.zipIdx_cons, List.foldl_cons, entry_setEntry]
    congr 1
    simp only [eq_comm (a := a)]
    by_cases h : x.toNat = a
    · simp [h, ha]
    · simp [h]

/-- In a list of different powers the last iteration whose `x` was `a` is the first one. -/
theorem foldl_last_power (ps : List (BitVec 9)) (hn : (ps.map BitVec.toNat).Nodup) (a i : Nat) (old : Byte) :
    (ps.zipIdx i).foldl (fun old p => if p.1.toNat = a then BitVec.ofNat 8 p.2 else old) old =
      match ps.findIdx? fun x => x.toNat == a with
      | some j => BitVec.ofNat 8 (i + j)
      | none => old := by
  induction ps generalizing i old with
  | nil => rfl
  | cons p ps ih =>
    rw [List.map_cons, List.nodup_cons] at hn
    rw [List.zipIdx_cons, List.foldl_cons, ih hn.2, List.findIdx?_cons]
    by_cases hp : p.toNat = a
    · have none : (ps.findIdx? fun x => x.toNat == a) = none := by
        rw [List.findIdx?_eq_none_iff]
        intro x hx
        simpa using fun e : x.toNat = a => hn.1 (hp ▸ e ▸ List.mem_map_of_mem hx)
      simp [hp, none]
    · simp only [hp, if_false, beq_iff_eq]
      cases ps.findIdx? fun x => x.toNat == a with
      | none => rfl
      | some j => simp [Nat.add_comm, Nat.add_left_comm]

/-- The second loop of R101, `m` iterations. -/
theorem entry_copyLoop (m : Nat) (e : Vector Byte 512) (hm : m ≤ 255) (k : Nat) :
    entry ((List.range m).foldl (fun e k => setEntry e (255 + k) (entry e k)) e) k =
      if 255 ≤ k ∧ k < 255 + m then entry e (k - 255) else entry e k := by
  induction m generalizing k with
  | zero => simp
  | succ m ih =>
    rw [List.range_succ, List.foldl_append, List.foldl_cons, List.foldl_nil, entry_setEntry, ih (by omega) k,
      ih (by omega) m, if_neg (show ¬(255 ≤ m ∧ m < 255 + m) by omega)]
    by_cases h1 : k = 255 + m
    · subst h1; rw [if_pos (by omega), if_pos (by omega), Nat.add_sub_cancel_left]
    · rw [if_neg (by omega)]
      by_cases h2 : 255 ≤ k ∧ k < 255 + m
      · rw [if_pos h2, if_pos (by omega)]
      · rw [if_neg h2, if_neg (by omega)]

/-- The machine's tables are what the literal loop of R101 leaves. -/
theorem buildTables_eq_loop (exp : Vector Byte 512) (log : Vector Byte 256) :
    Spec.buildTables exp log = (buildExp exp, buildLog log) := by
  unfold Spec.buildTables
  refine Prod.ext (file_ext fun k hk => ?_) (file_ext fun a ha => ?_)
  · dsimp only
    rw [entry_copyLoop 255 _ (Nat.le_refl _), entry_buildExp _ _ hk, entry_gfFill_exp _ _ _ _ _ (by omega),
      entry_gfFill_exp _ _ _ _ _ (by omega)]
    by_cases h1 : k < 255
    · rw [if_neg (by omega), if_pos (by omega), if_pos h1, Nat.sub_zero]
    · rw [if_neg h1]
      by_cases h2 : k < 510
      · rw [if_pos (by omega), if_pos (by omega), if_pos h2, Nat.sub_zero]
      · rw [if_neg (by omega), if_neg (by omega), if_neg h2]
  · dsimp only
    rw [entry_gfFill_log _ _ _ _ _ _ ha, entry_buildLog _ _ ha]
    have hn : ((gfPowers 255 1).map BitVec.toNat).Nodup := by rw [gfPowers_toNat]; exact expTable_nodup
    have := foldl_last_power _ hn a 0 (entry log a)
    simp only [Nat.zero_add] at this
    exact this

end Sys2Proof.Machine
end

