-- ==== Sys2Proof/Laws/Matrix.lean ====
section
/-! SUPPORT. The matrix stages cell by cell, the walk of MXPLACE, and that the machine's placement is the literal loop of R175. -/

namespace Sys2Proof.Machine

theorem cellIndex_lt {r c : Nat} (hr : r < 21) (hc : c < 21) : cellIndex r c < 441 := by
  unfold cellIndex Config.size; omega

theorem cellIndex_row {r c : Nat} (hc : c < 21) : cellIndex r c / Config.size = r := by
  unfold cellIndex Config.size; omega

theorem cellIndex_column {r c : Nat} (hc : c < 21) : cellIndex r c % Config.size = c := by
  unfold cellIndex Config.size; omega

/-- A stage that works cell by cell, at cell (r, c). -/
theorem cellAt_mapCells (f : Nat → Nat → Cell → Cell) (mx : Vector Cell 441) {r c : Nat} (hr : r < 21) (hc : c < 21) :
    Spec.cellAt (mapCells f mx) r c = f r c (Spec.cellAt mx r c) := by
  unfold Spec.cellAt mapCells
  rw [entry_mapEntries _ _ _ (cellIndex_lt hr hc), cellIndex_row hc, cellIndex_column hc]

/-- Two matrices with the same cells are the same matrix. -/
theorem matrix_ext {x y : Vector Cell 441} (h : ∀ r c, r < 21 → c < 21 → Spec.cellAt x r c = Spec.cellAt y r c) : x = y := by
  refine file_ext fun k hk => ?_
  have := h (k / 21) (k % 21) (by omega) (by omega)
  have e : cellIndex (k / 21) (k % 21) = k := by unfold cellIndex Config.size; omega
  simpa [Spec.cellAt, e] using this

/-! ### The walk -/

/-- The walk as indices into MX. -/
def walk : List Nat := zigzag.map fun rc => cellIndex rc.1 rc.2

/-- The place of a cell in the walk, computed from its row and column. -/
def walkPlace (k : Nat) : Nat :=
  let r := k / 21
  let c := k % 21
  let pair := if 6 < c then (20 - c) / 2 else 7 + (5 - c) / 2
  let side := if 6 < c then (20 - c) % 2 else (5 - c) % 2
  42 * pair + 2 * (if pair % 2 = 0 then 20 - r else r) + side

theorem walk_places : walk.map walkPlace = List.range 420 := by decide +kernel

/-- "A cell is visited and written exactly once" (R175). -/
theorem walk_nodup : walk.Nodup := List.Nodup.of_map walkPlace (by rw [walk_places]; exact List.nodup_range)

theorem walk_columns : ∀ k ∈ walk, k < 441 ∧ k % 21 ≠ 6 := by decide +kernel

theorem walk_lt : ∀ k ∈ walk, k < 441 := fun k hk => (walk_columns k hk).1

/-- The walk visits every cell that is not in column 6 (R175). -/
theorem mem_walk_iff (k : Fin 441) : k.val ∈ walk ↔ k.val % 21 ≠ 6 := by
  refine ⟨fun h => (walk_columns _ h).2, fun h => ?_⟩
  have sub : walk ⊆ (List.range 441).filter fun k => k % 21 ≠ 6 := fun k hk => by
    simpa using walk_columns k hk
  have len : ((List.range 441).filter fun k => k % 21 ≠ 6).length ≤ walk.length := by
    rw [← List.length_map walkPlace (as := walk), walk_places]; decide +kernel
  exact ((List.subperm_of_subset walk_nodup sub).perm_of_length_le len).mem_iff.2 (by simpa using h)

theorem freeCells_eq (mx : Vector Cell 441) : freeCells mx = walk.filter fun k => !(entry mx k).r := rfl

theorem nodup_freeCells (mx : Vector Cell 441) : (freeCells mx).Nodup := by
  rw [freeCells_eq]; exact walk_nodup.filter _

theorem mem_freeCells (mx : Vector Cell 441) (k : Nat) : k ∈ freeCells mx ↔ k ∈ walk ∧ (entry mx k).r = false := by
  rw [freeCells_eq]; simp

/-- What MXPLACE leaves in each cell (R175). -/
theorem entry_placeBits (stream : List Bool) (mx : Vector Cell 441) (k : Nat) (h : k < 441) :
    entry (placeBits stream mx) k =
      ((freeCells mx).idxOf? k).elim (entry mx k) fun j => ⟨stream.getD j false, true, true⟩ := by
  unfold placeBits
  dsimp only
  rw [entry_mapEntries _ _ _ h]
  cases (freeCells mx).idxOf? k <;> rfl

/-- Unreserved cell number `j` of the walk takes bit `j` of the stream. -/
theorem entry_placeBits_free (stream : List Bool) (mx : Vector Cell 441) (j : Nat) (h : j < (freeCells mx).length) :
    entry (placeBits stream mx) (freeCells mx)[j] = ⟨stream.getD j false, true, true⟩ := by
  have hm : (freeCells mx)[j] ∈ walk := ((mem_freeCells mx _).1 (List.getElem_mem h)).1
  rw [entry_placeBits _ _ _ (walk_lt _ hm)]
  have : (freeCells mx).idxOf? (freeCells mx)[j] = some j := by
    rw [List.idxOf?, List.findIdx?_eq_some_iff_getElem]
    refine ⟨h, by simp, fun i hi => ?_⟩
    have := (nodup_freeCells mx).getElem_inj_iff (i := i) (hi := by omega) (j := j) (hj := h)
    simp; omega
  rw [this]; rfl

/-- A cell that is reserved, or in column 6, keeps what it held. -/
theorem entry_placeBits_kept (stream : List Bool) (mx : Vector Cell 441) (k : Nat) (h : k < 441) (hf : k ∉ freeCells mx) :
    entry (placeBits stream mx) k = entry mx k := by
  rw [entry_placeBits _ _ _ h, List.idxOf?_eq_none_iff.2 hf]; rfl

/-! ### The literal loop of R175 -/

/-- One visit of the loop, at an index. -/
def placeStep (stream : List Bool) (acc : Vector Cell 441 × Nat) (k : Nat) : Vector Cell 441 × Nat :=
  if (entry acc.1 k).r = false then (setEntry acc.1 k ⟨stream.getD acc.2 false, true, true⟩, acc.2 + 1) else acc

theorem placeColumns_eq (stream : List Bool) (col : Nat) (up : Bool) (acc : Vector Cell 441 × Nat) :
    Spec.placeColumns stream col up acc =
      ((walkPair (col, up)).map fun rc => cellIndex rc.1 rc.2).foldl (placeStep stream) acc := by
  unfold Spec.placeColumns walkPair
  rw [List.foldl_map, List.foldl_flatMap]
  rfl

/-- The column pairs the outer loop of R175 goes through. -/
def pairsOf : (fuel : Nat) → (col : Int) → (up : Bool) → List (Nat × Bool)
  | 0, _, _ => []
  | fuel + 1, col, up =>
    if 1 ≤ col then
      let col := if col = 6 then 5 else col
      (col.toNat, up) :: pairsOf fuel (col - 2) (!up)
    else []

/-- They are the ten pairs R175 lists. -/
theorem pairsOf_eq : pairsOf 21 20 true = columnPairs := by decide

theorem placeWhile_eq (stream : List Bool) (fuel : Nat) (col : Int) (up : Bool) (acc : Vector Cell 441 × Nat) :
    Spec.placeWhile stream fuel col up acc =
      ((pairsOf fuel col up).flatMap fun p => (walkPair p).map fun rc => cellIndex rc.1 rc.2).foldl (placeStep stream) acc := by
  induction fuel generalizing col up acc with
  | zero => rfl
  | succ fuel ih =>
    unfold Spec.placeWhile pairsOf
    split
    · dsimp only
      rw [List.flatMap_cons, List.foldl_append, ← placeColumns_eq, ih]
    · rfl

theorem placeLoop_eq_foldl (stream : List Bool) (mx : Vector Cell 441) :
    Spec.placeLoop stream mx = (walk.foldl (placeStep stream) (mx, 0)).1 := by
  rw [Spec.placeLoop, placeWhile_eq, pairsOf_eq, walk, zigzag, List.map_flatMap]

/-- A fold of visits over cells met once each: a free cell takes the next bit. -/
theorem entry_foldl_placeStep (stream : List Bool) (w : List Nat) (hn : w.Nodup) (hw : ∀ k ∈ w, k < 441)
    (mx : Vector Cell 441) (n : Nat) (k : Nat) :
    entry (w.foldl (placeStep stream) (mx, n)).1 k =
      ((w.filter fun k => !(entry mx k).r).idxOf? k).elim (entry mx k) fun j => ⟨stream.getD (n + j) false, true, true⟩ := by
  induction w generalizing mx n with
  | nil => rfl
  | cons z w ih =>
    obtain ⟨hz, hn⟩ := List.nodup_cons.1 hn
    have hw' : ∀ k ∈ w, k < 441 := fun k hk => hw k (by simp [hk])
    rw [List.foldl_cons]
    by_cases hr : (entry mx z).r = false
    · rw [placeStep, if_pos hr, ih hn hw']
      have same : (w.filter fun k => !(entry (setEntry mx z ⟨stream.getD n false, true, true⟩) k).r) =
          w.filter fun k => !(entry mx k).r := by
        refine List.filter_congr fun k hk => ?_
        rw [entry_setEntry, if_neg]
        rintro ⟨rfl, -⟩
        exact hz hk
      rw [same, List.filter_cons, if_pos (by simp [hr]), List.idxOf?_cons, entry_setEntry]
      by_cases hk : k = z
      · subst hk
        have : k ∉ w.filter fun k => !(entry mx k).r := fun h => hz (List.mem_filter.1 h).1
        rw [List.idxOf?_eq_none_iff.2 this]
        simp [hw k (by simp)]
      · have hzk : (z == k) = false := by simpa using Ne.symm hk
        simp only [hzk, hk, false_and, if_false, Bool.false_eq_true]
        cases ((w.filter fun k => !(entry mx k).r).idxOf? k) with
        | none => rfl
        | some j => simp [Nat.add_comm, Nat.add_left_comm]
    · rw [placeStep, if_neg hr, ih hn hw', List.filter_cons, if_neg (by simpa using hr)]

/-- The machine's placement is the literal loop of R175. -/
theorem placeBits_eq_loop (stream : List Bool) (mx : Vector Cell 441) : placeBits stream mx = Spec.placeLoop stream mx := by
  refine file_ext fun k hk => ?_
  rw [placeLoop_eq_foldl, entry_foldl_placeStep _ _ walk_nodup walk_lt, entry_placeBits _ _ _ hk, freeCells_eq]
  simp

end Sys2Proof.Machine
end

