-- ==== Sys2Proof/Laws/State.lean ====
section
/-! SUPPORT. One lemma for each field under each update of the state, so that no proof unfolds a record update; and that reset leaves
the fields of R251. -/

namespace Sys2Proof.Machine.State

variable (s : State)

/-! ### setDone -/

@[simp] theorem setDone_die (b : Bool) : (s.setDone b).die = s.die := rfl
@[simp] theorem setDone_eie (b : Bool) : (s.setDone b).eie = s.eie := rfl
@[simp] theorem setDone_done (b : Bool) : (s.setDone b).done = b := rfl
@[simp] theorem setDone_err (b : Bool) : (s.setDone b).err = s.err := rfl
@[simp] theorem setDone_gfv (b : Bool) : (s.setDone b).gfv = s.gfv := rfl
@[simp] theorem setDone_bsst (b : Bool) : (s.setDone b).bsst = s.bsst := rfl
@[simp] theorem setDone_mxs (b : Bool) : (s.setDone b).mxs = s.mxs := rfl
@[simp] theorem setDone_cause (b : Bool) : (s.setDone b).cause = s.cause := rfl
@[simp] theorem setDone_stage (b : Bool) : (s.setDone b).stage = s.stage := rfl
@[simp] theorem setDone_info (b : Bool) : (s.setDone b).info = s.info := rfl
@[simp] theorem setDone_fmt (b : Bool) : (s.setDone b).fmt = s.fmt := rfl
@[simp] theorem setDone_gfa (b : Bool) : (s.setDone b).gfa = s.gfa := rfl
@[simp] theorem setDone_gfb (b : Bool) : (s.setDone b).gfb = s.gfb := rfl
@[simp] theorem setDone_gfr (b : Bool) : (s.setDone b).gfr = s.gfr := rfl
@[simp] theorem setDone_plen (b : Bool) : (s.setDone b).plen = s.plen := rfl
@[simp] theorem setDone_blen (b : Bool) : (s.setDone b).blen = s.blen := rfl
@[simp] theorem setDone_dcwn (b : Bool) : (s.setDone b).dcwn = s.dcwn := rfl
@[simp] theorem setDone_eccn (b : Bool) : (s.setDone b).eccn = s.eccn := rfl
@[simp] theorem setDone_genlen (b : Bool) : (s.setDone b).genlen = s.genlen := rfl
@[simp] theorem setDone_palen (b : Bool) : (s.setDone b).palen = s.palen := rfl
@[simp] theorem setDone_pblen (b : Bool) : (s.setDone b).pblen = s.pblen := rfl
@[simp] theorem setDone_prlen (b : Bool) : (s.setDone b).prlen = s.prlen := rfl
@[simp] theorem setDone_exp (b : Bool) : (s.setDone b).exp = s.exp := rfl
@[simp] theorem setDone_log (b : Bool) : (s.setDone b).log = s.log := rfl
@[simp] theorem setDone_pay (b : Bool) : (s.setDone b).pay = s.pay := rfl
@[simp] theorem setDone_bs (b : Bool) : (s.setDone b).bs = s.bs := rfl
@[simp] theorem setDone_dcw (b : Bool) : (s.setDone b).dcw = s.dcw := rfl
@[simp] theorem setDone_ecc (b : Bool) : (s.setDone b).ecc = s.ecc := rfl
@[simp] theorem setDone_gen (b : Bool) : (s.setDone b).gen = s.gen := rfl
@[simp] theorem setDone_pa (b : Bool) : (s.setDone b).pa = s.pa := rfl
@[simp] theorem setDone_pb (b : Bool) : (s.setDone b).pb = s.pb := rfl
@[simp] theorem setDone_pr (b : Bool) : (s.setDone b).pr = s.pr := rfl
@[simp] theorem setDone_mx (b : Bool) : (s.setDone b).mx = s.mx := rfl
@[simp] theorem setDone_script (b : Bool) : (s.setDone b).script = s.script := rfl
@[simp] theorem setDone_returned (b : Bool) : (s.setDone b).returned = s.returned := rfl
@[simp] theorem setDone_resets (b : Bool) : (s.setDone b).resets = s.resets := rfl

/-! ### setTables -/

@[simp] theorem setTables_die (exp : Vector Byte 512) (log : Vector Byte 256) : (s.setTables exp log).die = s.die := rfl
@[simp] theorem setTables_eie (exp : Vector Byte 512) (log : Vector Byte 256) : (s.setTables exp log).eie = s.eie := rfl
@[simp] theorem setTables_done (exp : Vector Byte 512) (log : Vector Byte 256) : (s.setTables exp log).done = s.done := rfl
@[simp] theorem setTables_err (exp : Vector Byte 512) (log : Vector Byte 256) : (s.setTables exp log).err = s.err := rfl
@[simp] theorem setTables_gfv (exp : Vector Byte 512) (log : Vector Byte 256) : (s.setTables exp log).gfv = true := rfl
@[simp] theorem setTables_bsst (exp : Vector Byte 512) (log : Vector Byte 256) : (s.setTables exp log).bsst = s.bsst := rfl
@[simp] theorem setTables_mxs (exp : Vector Byte 512) (log : Vector Byte 256) : (s.setTables exp log).mxs = s.mxs := rfl
@[simp] theorem setTables_cause (exp : Vector Byte 512) (log : Vector Byte 256) : (s.setTables exp log).cause = s.cause := rfl
@[simp] theorem setTables_stage (exp : Vector Byte 512) (log : Vector Byte 256) : (s.setTables exp log).stage = s.stage := rfl
@[simp] theorem setTables_info (exp : Vector Byte 512) (log : Vector Byte 256) : (s.setTables exp log).info = s.info := rfl
@[simp] theorem setTables_fmt (exp : Vector Byte 512) (log : Vector Byte 256) : (s.setTables exp log).fmt = s.fmt := rfl
@[simp] theorem setTables_gfa (exp : Vector Byte 512) (log : Vector Byte 256) : (s.setTables exp log).gfa = s.gfa := rfl
@[simp] theorem setTables_gfb (exp : Vector Byte 512) (log : Vector Byte 256) : (s.setTables exp log).gfb = s.gfb := rfl
@[simp] theorem setTables_gfr (exp : Vector Byte 512) (log : Vector Byte 256) : (s.setTables exp log).gfr = s.gfr := rfl
@[simp] theorem setTables_plen (exp : Vector Byte 512) (log : Vector Byte 256) : (s.setTables exp log).plen = s.plen := rfl
@[simp] theorem setTables_blen (exp : Vector Byte 512) (log : Vector Byte 256) : (s.setTables exp log).blen = s.blen := rfl
@[simp] theorem setTables_dcwn (exp : Vector Byte 512) (log : Vector Byte 256) : (s.setTables exp log).dcwn = s.dcwn := rfl
@[simp] theorem setTables_eccn (exp : Vector Byte 512) (log : Vector Byte 256) : (s.setTables exp log).eccn = s.eccn := rfl
@[simp] theorem setTables_genlen (exp : Vector Byte 512) (log : Vector Byte 256) : (s.setTables exp log).genlen = s.genlen := rfl
@[simp] theorem setTables_palen (exp : Vector Byte 512) (log : Vector Byte 256) : (s.setTables exp log).palen = s.palen := rfl
@[simp] theorem setTables_pblen (exp : Vector Byte 512) (log : Vector Byte 256) : (s.setTables exp log).pblen = s.pblen := rfl
@[simp] theorem setTables_prlen (exp : Vector Byte 512) (log : Vector Byte 256) : (s.setTables exp log).prlen = s.prlen := rfl
@[simp] theorem setTables_exp (exp : Vector Byte 512) (log : Vector Byte 256) : (s.setTables exp log).exp = exp := rfl
@[simp] theorem setTables_log (exp : Vector Byte 512) (log : Vector Byte 256) : (s.setTables exp log).log = log := rfl
@[simp] theorem setTables_pay (exp : Vector Byte 512) (log : Vector Byte 256) : (s.setTables exp log).pay = s.pay := rfl
@[simp] theorem setTables_bs (exp : Vector Byte 512) (log : Vector Byte 256) : (s.setTables exp log).bs = s.bs := rfl
@[simp] theorem setTables_dcw (exp : Vector Byte 512) (log : Vector Byte 256) : (s.setTables exp log).dcw = s.dcw := rfl
@[simp] theorem setTables_ecc (exp : Vector Byte 512) (log : Vector Byte 256) : (s.setTables exp log).ecc = s.ecc := rfl
@[simp] theorem setTables_gen (exp : Vector Byte 512) (log : Vector Byte 256) : (s.setTables exp log).gen = s.gen := rfl
@[simp] theorem setTables_pa (exp : Vector Byte 512) (log : Vector Byte 256) : (s.setTables exp log).pa = s.pa := rfl
@[simp] theorem setTables_pb (exp : Vector Byte 512) (log : Vector Byte 256) : (s.setTables exp log).pb = s.pb := rfl
@[simp] theorem setTables_pr (exp : Vector Byte 512) (log : Vector Byte 256) : (s.setTables exp log).pr = s.pr := rfl
@[simp] theorem setTables_mx (exp : Vector Byte 512) (log : Vector Byte 256) : (s.setTables exp log).mx = s.mx := rfl
@[simp] theorem setTables_script (exp : Vector Byte 512) (log : Vector Byte 256) : (s.setTables exp log).script = s.script := rfl
@[simp] theorem setTables_returned (exp : Vector Byte 512) (log : Vector Byte 256) : (s.setTables exp log).returned = s.returned := rfl
@[simp] theorem setTables_resets (exp : Vector Byte 512) (log : Vector Byte 256) : (s.setTables exp log).resets = s.resets := rfl

/-! ### setProduct -/

@[simp] theorem setProduct_die (r : Byte) : (s.setProduct r).die = s.die := rfl
@[simp] theorem setProduct_eie (r : Byte) : (s.setProduct r).eie = s.eie := rfl
@[simp] theorem setProduct_done (r : Byte) : (s.setProduct r).done = s.done := rfl
@[simp] theorem setProduct_err (r : Byte) : (s.setProduct r).err = s.err := rfl
@[simp] theorem setProduct_gfv (r : Byte) : (s.setProduct r).gfv = s.gfv := rfl
@[simp] theorem setProduct_bsst (r : Byte) : (s.setProduct r).bsst = s.bsst := rfl
@[simp] theorem setProduct_mxs (r : Byte) : (s.setProduct r).mxs = s.mxs := rfl
@[simp] theorem setProduct_cause (r : Byte) : (s.setProduct r).cause = s.cause := rfl
@[simp] theorem setProduct_stage (r : Byte) : (s.setProduct r).stage = s.stage := rfl
@[simp] theorem setProduct_info (r : Byte) : (s.setProduct r).info = s.info := rfl
@[simp] theorem setProduct_fmt (r : Byte) : (s.setProduct r).fmt = s.fmt := rfl
@[simp] theorem setProduct_gfa (r : Byte) : (s.setProduct r).gfa = s.gfa := rfl
@[simp] theorem setProduct_gfb (r : Byte) : (s.setProduct r).gfb = s.gfb := rfl
@[simp] theorem setProduct_gfr (r : Byte) : (s.setProduct r).gfr = r := rfl
@[simp] theorem setProduct_plen (r : Byte) : (s.setProduct r).plen = s.plen := rfl
@[simp] theorem setProduct_blen (r : Byte) : (s.setProduct r).blen = s.blen := rfl
@[simp] theorem setProduct_dcwn (r : Byte) : (s.setProduct r).dcwn = s.dcwn := rfl
@[simp] theorem setProduct_eccn (r : Byte) : (s.setProduct r).eccn = s.eccn := rfl
@[simp] theorem setProduct_genlen (r : Byte) : (s.setProduct r).genlen = s.genlen := rfl
@[simp] theorem setProduct_palen (r : Byte) : (s.setProduct r).palen = s.palen := rfl
@[simp] theorem setProduct_pblen (r : Byte) : (s.setProduct r).pblen = s.pblen := rfl
@[simp] theorem setProduct_prlen (r : Byte) : (s.setProduct r).prlen = s.prlen := rfl
@[simp] theorem setProduct_exp (r : Byte) : (s.setProduct r).exp = s.exp := rfl
@[simp] theorem setProduct_log (r : Byte) : (s.setProduct r).log = s.log := rfl
@[simp] theorem setProduct_pay (r : Byte) : (s.setProduct r).pay = s.pay := rfl
@[simp] theorem setProduct_bs (r : Byte) : (s.setProduct r).bs = s.bs := rfl
@[simp] theorem setProduct_dcw (r : Byte) : (s.setProduct r).dcw = s.dcw := rfl
@[simp] theorem setProduct_ecc (r : Byte) : (s.setProduct r).ecc = s.ecc := rfl
@[simp] theorem setProduct_gen (r : Byte) : (s.setProduct r).gen = s.gen := rfl
@[simp] theorem setProduct_pa (r : Byte) : (s.setProduct r).pa = s.pa := rfl
@[simp] theorem setProduct_pb (r : Byte) : (s.setProduct r).pb = s.pb := rfl
@[simp] theorem setProduct_pr (r : Byte) : (s.setProduct r).pr = s.pr := rfl
@[simp] theorem setProduct_mx (r : Byte) : (s.setProduct r).mx = s.mx := rfl
@[simp] theorem setProduct_script (r : Byte) : (s.setProduct r).script = s.script := rfl
@[simp] theorem setProduct_returned (r : Byte) : (s.setProduct r).returned = s.returned := rfl
@[simp] theorem setProduct_resets (r : Byte) : (s.setProduct r).resets = s.resets := rfl

/-! ### setResult -/

@[simp] theorem setResult_die (r : List Byte) (len : Nat) : (s.setResult r len).die = s.die := rfl
@[simp] theorem setResult_eie (r : List Byte) (len : Nat) : (s.setResult r len).eie = s.eie := rfl
@[simp] theorem setResult_done (r : List Byte) (len : Nat) : (s.setResult r len).done = s.done := rfl
@[simp] theorem setResult_err (r : List Byte) (len : Nat) : (s.setResult r len).err = s.err := rfl
@[simp] theorem setResult_gfv (r : List Byte) (len : Nat) : (s.setResult r len).gfv = s.gfv := rfl
@[simp] theorem setResult_bsst (r : List Byte) (len : Nat) : (s.setResult r len).bsst = s.bsst := rfl
@[simp] theorem setResult_mxs (r : List Byte) (len : Nat) : (s.setResult r len).mxs = s.mxs := rfl
@[simp] theorem setResult_cause (r : List Byte) (len : Nat) : (s.setResult r len).cause = s.cause := rfl
@[simp] theorem setResult_stage (r : List Byte) (len : Nat) : (s.setResult r len).stage = s.stage := rfl
@[simp] theorem setResult_info (r : List Byte) (len : Nat) : (s.setResult r len).info = s.info := rfl
@[simp] theorem setResult_fmt (r : List Byte) (len : Nat) : (s.setResult r len).fmt = s.fmt := rfl
@[simp] theorem setResult_gfa (r : List Byte) (len : Nat) : (s.setResult r len).gfa = s.gfa := rfl
@[simp] theorem setResult_gfb (r : List Byte) (len : Nat) : (s.setResult r len).gfb = s.gfb := rfl
@[simp] theorem setResult_gfr (r : List Byte) (len : Nat) : (s.setResult r len).gfr = s.gfr := rfl
@[simp] theorem setResult_plen (r : List Byte) (len : Nat) : (s.setResult r len).plen = s.plen := rfl
@[simp] theorem setResult_blen (r : List Byte) (len : Nat) : (s.setResult r len).blen = s.blen := rfl
@[simp] theorem setResult_dcwn (r : List Byte) (len : Nat) : (s.setResult r len).dcwn = s.dcwn := rfl
@[simp] theorem setResult_eccn (r : List Byte) (len : Nat) : (s.setResult r len).eccn = s.eccn := rfl
@[simp] theorem setResult_genlen (r : List Byte) (len : Nat) : (s.setResult r len).genlen = s.genlen := rfl
@[simp] theorem setResult_palen (r : List Byte) (len : Nat) : (s.setResult r len).palen = s.palen := rfl
@[simp] theorem setResult_pblen (r : List Byte) (len : Nat) : (s.setResult r len).pblen = s.pblen := rfl
@[simp] theorem setResult_prlen (r : List Byte) (len : Nat) : (s.setResult r len).prlen = BitVec.ofNat 6 len := rfl
@[simp] theorem setResult_exp (r : List Byte) (len : Nat) : (s.setResult r len).exp = s.exp := rfl
@[simp] theorem setResult_log (r : List Byte) (len : Nat) : (s.setResult r len).log = s.log := rfl
@[simp] theorem setResult_pay (r : List Byte) (len : Nat) : (s.setResult r len).pay = s.pay := rfl
@[simp] theorem setResult_bs (r : List Byte) (len : Nat) : (s.setResult r len).bs = s.bs := rfl
@[simp] theorem setResult_dcw (r : List Byte) (len : Nat) : (s.setResult r len).dcw = s.dcw := rfl
@[simp] theorem setResult_ecc (r : List Byte) (len : Nat) : (s.setResult r len).ecc = s.ecc := rfl
@[simp] theorem setResult_gen (r : List Byte) (len : Nat) : (s.setResult r len).gen = s.gen := rfl
@[simp] theorem setResult_pa (r : List Byte) (len : Nat) : (s.setResult r len).pa = s.pa := rfl
@[simp] theorem setResult_pb (r : List Byte) (len : Nat) : (s.setResult r len).pb = s.pb := rfl
@[simp] theorem setResult_pr (r : List Byte) (len : Nat) : (s.setResult r len).pr = writeRun s.pr 0 r := rfl
@[simp] theorem setResult_mx (r : List Byte) (len : Nat) : (s.setResult r len).mx = s.mx := rfl
@[simp] theorem setResult_script (r : List Byte) (len : Nat) : (s.setResult r len).script = s.script := rfl
@[simp] theorem setResult_returned (r : List Byte) (len : Nat) : (s.setResult r len).returned = s.returned := rfl
@[simp] theorem setResult_resets (r : List Byte) (len : Nat) : (s.setResult r len).resets = s.resets := rfl

/-! ### setGenerator -/

@[simp] theorem setGenerator_die (g : List Byte) (len : Nat) : (s.setGenerator g len).die = s.die := rfl
@[simp] theorem setGenerator_eie (g : List Byte) (len : Nat) : (s.setGenerator g len).eie = s.eie := rfl
@[simp] theorem setGenerator_done (g : List Byte) (len : Nat) : (s.setGenerator g len).done = s.done := rfl
@[simp] theorem setGenerator_err (g : List Byte) (len : Nat) : (s.setGenerator g len).err = s.err := rfl
@[simp] theorem setGenerator_gfv (g : List Byte) (len : Nat) : (s.setGenerator g len).gfv = s.gfv := rfl
@[simp] theorem setGenerator_bsst (g : List Byte) (len : Nat) : (s.setGenerator g len).bsst = s.bsst := rfl
@[simp] theorem setGenerator_mxs (g : List Byte) (len : Nat) : (s.setGenerator g len).mxs = s.mxs := rfl
@[simp] theorem setGenerator_cause (g : List Byte) (len : Nat) : (s.setGenerator g len).cause = s.cause := rfl
@[simp] theorem setGenerator_stage (g : List Byte) (len : Nat) : (s.setGenerator g len).stage = s.stage := rfl
@[simp] theorem setGenerator_info (g : List Byte) (len : Nat) : (s.setGenerator g len).info = s.info := rfl
@[simp] theorem setGenerator_fmt (g : List Byte) (len : Nat) : (s.setGenerator g len).fmt = s.fmt := rfl
@[simp] theorem setGenerator_gfa (g : List Byte) (len : Nat) : (s.setGenerator g len).gfa = s.gfa := rfl
@[simp] theorem setGenerator_gfb (g : List Byte) (len : Nat) : (s.setGenerator g len).gfb = s.gfb := rfl
@[simp] theorem setGenerator_gfr (g : List Byte) (len : Nat) : (s.setGenerator g len).gfr = s.gfr := rfl
@[simp] theorem setGenerator_plen (g : List Byte) (len : Nat) : (s.setGenerator g len).plen = s.plen := rfl
@[simp] theorem setGenerator_blen (g : List Byte) (len : Nat) : (s.setGenerator g len).blen = s.blen := rfl
@[simp] theorem setGenerator_dcwn (g : List Byte) (len : Nat) : (s.setGenerator g len).dcwn = s.dcwn := rfl
@[simp] theorem setGenerator_eccn (g : List Byte) (len : Nat) : (s.setGenerator g len).eccn = s.eccn := rfl
@[simp] theorem setGenerator_genlen (g : List Byte) (len : Nat) : (s.setGenerator g len).genlen = BitVec.ofNat 6 len := rfl
@[simp] theorem setGenerator_palen (g : List Byte) (len : Nat) : (s.setGenerator g len).palen = s.palen := rfl
@[simp] theorem setGenerator_pblen (g : List Byte) (len : Nat) : (s.setGenerator g len).pblen = s.pblen := rfl
@[simp] theorem setGenerator_prlen (g : List Byte) (len : Nat) : (s.setGenerator g len).prlen = s.prlen := rfl
@[simp] theorem setGenerator_exp (g : List Byte) (len : Nat) : (s.setGenerator g len).exp = s.exp := rfl
@[simp] theorem setGenerator_log (g : List Byte) (len : Nat) : (s.setGenerator g len).log = s.log := rfl
@[simp] theorem setGenerator_pay (g : List Byte) (len : Nat) : (s.setGenerator g len).pay = s.pay := rfl
@[simp] theorem setGenerator_bs (g : List Byte) (len : Nat) : (s.setGenerator g len).bs = s.bs := rfl
@[simp] theorem setGenerator_dcw (g : List Byte) (len : Nat) : (s.setGenerator g len).dcw = s.dcw := rfl
@[simp] theorem setGenerator_ecc (g : List Byte) (len : Nat) : (s.setGenerator g len).ecc = s.ecc := rfl
@[simp] theorem setGenerator_gen (g : List Byte) (len : Nat) : (s.setGenerator g len).gen = writeRun s.gen 0 g := rfl
@[simp] theorem setGenerator_pa (g : List Byte) (len : Nat) : (s.setGenerator g len).pa = s.pa := rfl
@[simp] theorem setGenerator_pb (g : List Byte) (len : Nat) : (s.setGenerator g len).pb = s.pb := rfl
@[simp] theorem setGenerator_pr (g : List Byte) (len : Nat) : (s.setGenerator g len).pr = s.pr := rfl
@[simp] theorem setGenerator_mx (g : List Byte) (len : Nat) : (s.setGenerator g len).mx = s.mx := rfl
@[simp] theorem setGenerator_script (g : List Byte) (len : Nat) : (s.setGenerator g len).script = s.script := rfl
@[simp] theorem setGenerator_returned (g : List Byte) (len : Nat) : (s.setGenerator g len).returned = s.returned := rfl
@[simp] theorem setGenerator_resets (g : List Byte) (len : Nat) : (s.setGenerator g len).resets = s.resets := rfl

/-! ### setEcc -/

@[simp] theorem setEcc_die (r : List Byte) (len : Nat) : (s.setEcc r len).die = s.die := rfl
@[simp] theorem setEcc_eie (r : List Byte) (len : Nat) : (s.setEcc r len).eie = s.eie := rfl
@[simp] theorem setEcc_done (r : List Byte) (len : Nat) : (s.setEcc r len).done = s.done := rfl
@[simp] theorem setEcc_err (r : List Byte) (len : Nat) : (s.setEcc r len).err = s.err := rfl
@[simp] theorem setEcc_gfv (r : List Byte) (len : Nat) : (s.setEcc r len).gfv = s.gfv := rfl
@[simp] theorem setEcc_bsst (r : List Byte) (len : Nat) : (s.setEcc r len).bsst = s.bsst := rfl
@[simp] theorem setEcc_mxs (r : List Byte) (len : Nat) : (s.setEcc r len).mxs = s.mxs := rfl
@[simp] theorem setEcc_cause (r : List Byte) (len : Nat) : (s.setEcc r len).cause = s.cause := rfl
@[simp] theorem setEcc_stage (r : List Byte) (len : Nat) : (s.setEcc r len).stage = s.stage := rfl
@[simp] theorem setEcc_info (r : List Byte) (len : Nat) : (s.setEcc r len).info = s.info := rfl
@[simp] theorem setEcc_fmt (r : List Byte) (len : Nat) : (s.setEcc r len).fmt = s.fmt := rfl
@[simp] theorem setEcc_gfa (r : List Byte) (len : Nat) : (s.setEcc r len).gfa = s.gfa := rfl
@[simp] theorem setEcc_gfb (r : List Byte) (len : Nat) : (s.setEcc r len).gfb = s.gfb := rfl
@[simp] theorem setEcc_gfr (r : List Byte) (len : Nat) : (s.setEcc r len).gfr = s.gfr := rfl
@[simp] theorem setEcc_plen (r : List Byte) (len : Nat) : (s.setEcc r len).plen = s.plen := rfl
@[simp] theorem setEcc_blen (r : List Byte) (len : Nat) : (s.setEcc r len).blen = s.blen := rfl
@[simp] theorem setEcc_dcwn (r : List Byte) (len : Nat) : (s.setEcc r len).dcwn = s.dcwn := rfl
@[simp] theorem setEcc_eccn (r : List Byte) (len : Nat) : (s.setEcc r len).eccn = BitVec.ofNat 6 len := rfl
@[simp] theorem setEcc_genlen (r : List Byte) (len : Nat) : (s.setEcc r len).genlen = s.genlen := rfl
@[simp] theorem setEcc_palen (r : List Byte) (len : Nat) : (s.setEcc r len).palen = s.palen := rfl
@[simp] theorem setEcc_pblen (r : List Byte) (len : Nat) : (s.setEcc r len).pblen = s.pblen := rfl
@[simp] theorem setEcc_prlen (r : List Byte) (len : Nat) : (s.setEcc r len).prlen = s.prlen := rfl
@[simp] theorem setEcc_exp (r : List Byte) (len : Nat) : (s.setEcc r len).exp = s.exp := rfl
@[simp] theorem setEcc_log (r : List Byte) (len : Nat) : (s.setEcc r len).log = s.log := rfl
@[simp] theorem setEcc_pay (r : List Byte) (len : Nat) : (s.setEcc r len).pay = s.pay := rfl
@[simp] theorem setEcc_bs (r : List Byte) (len : Nat) : (s.setEcc r len).bs = s.bs := rfl
@[simp] theorem setEcc_dcw (r : List Byte) (len : Nat) : (s.setEcc r len).dcw = s.dcw := rfl
@[simp] theorem setEcc_ecc (r : List Byte) (len : Nat) : (s.setEcc r len).ecc = writeRun s.ecc 0 r := rfl
@[simp] theorem setEcc_gen (r : List Byte) (len : Nat) : (s.setEcc r len).gen = s.gen := rfl
@[simp] theorem setEcc_pa (r : List Byte) (len : Nat) : (s.setEcc r len).pa = s.pa := rfl
@[simp] theorem setEcc_pb (r : List Byte) (len : Nat) : (s.setEcc r len).pb = s.pb := rfl
@[simp] theorem setEcc_pr (r : List Byte) (len : Nat) : (s.setEcc r len).pr = s.pr := rfl
@[simp] theorem setEcc_mx (r : List Byte) (len : Nat) : (s.setEcc r len).mx = s.mx := rfl
@[simp] theorem setEcc_script (r : List Byte) (len : Nat) : (s.setEcc r len).script = s.script := rfl
@[simp] theorem setEcc_returned (r : List Byte) (len : Nat) : (s.setEcc r len).returned = s.returned := rfl
@[simp] theorem setEcc_resets (r : List Byte) (len : Nat) : (s.setEcc r len).resets = s.resets := rfl

/-! ### setBits -/

@[simp] theorem setBits_die (base : Nat) (b : List Bool) (blen : Nat) (bsst : BitState) : (s.setBits base b blen bsst).die = s.die := rfl
@[simp] theorem setBits_eie (base : Nat) (b : List Bool) (blen : Nat) (bsst : BitState) : (s.setBits base b blen bsst).eie = s.eie := rfl
@[simp] theorem setBits_done (base : Nat) (b : List Bool) (blen : Nat) (bsst : BitState) : (s.setBits base b blen bsst).done = s.done := rfl
@[simp] theorem setBits_err (base : Nat) (b : List Bool) (blen : Nat) (bsst : BitState) : (s.setBits base b blen bsst).err = s.err := rfl
@[simp] theorem setBits_gfv (base : Nat) (b : List Bool) (blen : Nat) (bsst : BitState) : (s.setBits base b blen bsst).gfv = s.gfv := rfl
@[simp] theorem setBits_bsst (base : Nat) (b : List Bool) (blen : Nat) (bsst : BitState) : (s.setBits base b blen bsst).bsst = bsst := rfl
@[simp] theorem setBits_mxs (base : Nat) (b : List Bool) (blen : Nat) (bsst : BitState) : (s.setBits base b blen bsst).mxs = s.mxs := rfl
@[simp] theorem setBits_cause (base : Nat) (b : List Bool) (blen : Nat) (bsst : BitState) : (s.setBits base b blen bsst).cause = s.cause := rfl
@[simp] theorem setBits_stage (base : Nat) (b : List Bool) (blen : Nat) (bsst : BitState) : (s.setBits base b blen bsst).stage = s.stage := rfl
@[simp] theorem setBits_info (base : Nat) (b : List Bool) (blen : Nat) (bsst : BitState) : (s.setBits base b blen bsst).info = s.info := rfl
@[simp] theorem setBits_fmt (base : Nat) (b : List Bool) (blen : Nat) (bsst : BitState) : (s.setBits base b blen bsst).fmt = s.fmt := rfl
@[simp] theorem setBits_gfa (base : Nat) (b : List Bool) (blen : Nat) (bsst : BitState) : (s.setBits base b blen bsst).gfa = s.gfa := rfl
@[simp] theorem setBits_gfb (base : Nat) (b : List Bool) (blen : Nat) (bsst : BitState) : (s.setBits base b blen bsst).gfb = s.gfb := rfl
@[simp] theorem setBits_gfr (base : Nat) (b : List Bool) (blen : Nat) (bsst : BitState) : (s.setBits base b blen bsst).gfr = s.gfr := rfl
@[simp] theorem setBits_plen (base : Nat) (b : List Bool) (blen : Nat) (bsst : BitState) : (s.setBits base b blen bsst).plen = s.plen := rfl
@[simp] theorem setBits_blen (base : Nat) (b : List Bool) (blen : Nat) (bsst : BitState) : (s.setBits base b blen bsst).blen = BitVec.ofNat 12 blen := rfl
@[simp] theorem setBits_dcwn (base : Nat) (b : List Bool) (blen : Nat) (bsst : BitState) : (s.setBits base b blen bsst).dcwn = s.dcwn := rfl
@[simp] theorem setBits_eccn (base : Nat) (b : List Bool) (blen : Nat) (bsst : BitState) : (s.setBits base b blen bsst).eccn = s.eccn := rfl
@[simp] theorem setBits_genlen (base : Nat) (b : List Bool) (blen : Nat) (bsst : BitState) : (s.setBits base b blen bsst).genlen = s.genlen := rfl
@[simp] theorem setBits_palen (base : Nat) (b : List Bool) (blen : Nat) (bsst : BitState) : (s.setBits base b blen bsst).palen = s.palen := rfl
@[simp] theorem setBits_pblen (base : Nat) (b : List Bool) (blen : Nat) (bsst : BitState) : (s.setBits base b blen bsst).pblen = s.pblen := rfl
@[simp] theorem setBits_prlen (base : Nat) (b : List Bool) (blen : Nat) (bsst : BitState) : (s.setBits base b blen bsst).prlen = s.prlen := rfl
@[simp] theorem setBits_exp (base : Nat) (b : List Bool) (blen : Nat) (bsst : BitState) : (s.setBits base b blen bsst).exp = s.exp := rfl
@[simp] theorem setBits_log (base : Nat) (b : List Bool) (blen : Nat) (bsst : BitState) : (s.setBits base b blen bsst).log = s.log := rfl
@[simp] theorem setBits_pay (base : Nat) (b : List Bool) (blen : Nat) (bsst : BitState) : (s.setBits base b blen bsst).pay = s.pay := rfl
@[simp] theorem setBits_bs (base : Nat) (b : List Bool) (blen : Nat) (bsst : BitState) : (s.setBits base b blen bsst).bs = writeRun s.bs base b := rfl
@[simp] theorem setBits_dcw (base : Nat) (b : List Bool) (blen : Nat) (bsst : BitState) : (s.setBits base b blen bsst).dcw = s.dcw := rfl
@[simp] theorem setBits_ecc (base : Nat) (b : List Bool) (blen : Nat) (bsst : BitState) : (s.setBits base b blen bsst).ecc = s.ecc := rfl
@[simp] theorem setBits_gen (base : Nat) (b : List Bool) (blen : Nat) (bsst : BitState) : (s.setBits base b blen bsst).gen = s.gen := rfl
@[simp] theorem setBits_pa (base : Nat) (b : List Bool) (blen : Nat) (bsst : BitState) : (s.setBits base b blen bsst).pa = s.pa := rfl
@[simp] theorem setBits_pb (base : Nat) (b : List Bool) (blen : Nat) (bsst : BitState) : (s.setBits base b blen bsst).pb = s.pb := rfl
@[simp] theorem setBits_pr (base : Nat) (b : List Bool) (blen : Nat) (bsst : BitState) : (s.setBits base b blen bsst).pr = s.pr := rfl
@[simp] theorem setBits_mx (base : Nat) (b : List Bool) (blen : Nat) (bsst : BitState) : (s.setBits base b blen bsst).mx = s.mx := rfl
@[simp] theorem setBits_script (base : Nat) (b : List Bool) (blen : Nat) (bsst : BitState) : (s.setBits base b blen bsst).script = s.script := rfl
@[simp] theorem setBits_returned (base : Nat) (b : List Bool) (blen : Nat) (bsst : BitState) : (s.setBits base b blen bsst).returned = s.returned := rfl
@[simp] theorem setBits_resets (base : Nat) (b : List Bool) (blen : Nat) (bsst : BitState) : (s.setBits base b blen bsst).resets = s.resets := rfl

/-! ### setData -/

@[simp] theorem setData_die (d : List Byte) (len : Nat) : (s.setData d len).die = s.die := rfl
@[simp] theorem setData_eie (d : List Byte) (len : Nat) : (s.setData d len).eie = s.eie := rfl
@[simp] theorem setData_done (d : List Byte) (len : Nat) : (s.setData d len).done = s.done := rfl
@[simp] theorem setData_err (d : List Byte) (len : Nat) : (s.setData d len).err = s.err := rfl
@[simp] theorem setData_gfv (d : List Byte) (len : Nat) : (s.setData d len).gfv = s.gfv := rfl
@[simp] theorem setData_bsst (d : List Byte) (len : Nat) : (s.setData d len).bsst = s.bsst := rfl
@[simp] theorem setData_mxs (d : List Byte) (len : Nat) : (s.setData d len).mxs = s.mxs := rfl
@[simp] theorem setData_cause (d : List Byte) (len : Nat) : (s.setData d len).cause = s.cause := rfl
@[simp] theorem setData_stage (d : List Byte) (len : Nat) : (s.setData d len).stage = s.stage := rfl
@[simp] theorem setData_info (d : List Byte) (len : Nat) : (s.setData d len).info = s.info := rfl
@[simp] theorem setData_fmt (d : List Byte) (len : Nat) : (s.setData d len).fmt = s.fmt := rfl
@[simp] theorem setData_gfa (d : List Byte) (len : Nat) : (s.setData d len).gfa = s.gfa := rfl
@[simp] theorem setData_gfb (d : List Byte) (len : Nat) : (s.setData d len).gfb = s.gfb := rfl
@[simp] theorem setData_gfr (d : List Byte) (len : Nat) : (s.setData d len).gfr = s.gfr := rfl
@[simp] theorem setData_plen (d : List Byte) (len : Nat) : (s.setData d len).plen = s.plen := rfl
@[simp] theorem setData_blen (d : List Byte) (len : Nat) : (s.setData d len).blen = s.blen := rfl
@[simp] theorem setData_dcwn (d : List Byte) (len : Nat) : (s.setData d len).dcwn = BitVec.ofNat 6 len := rfl
@[simp] theorem setData_eccn (d : List Byte) (len : Nat) : (s.setData d len).eccn = s.eccn := rfl
@[simp] theorem setData_genlen (d : List Byte) (len : Nat) : (s.setData d len).genlen = s.genlen := rfl
@[simp] theorem setData_palen (d : List Byte) (len : Nat) : (s.setData d len).palen = s.palen := rfl
@[simp] theorem setData_pblen (d : List Byte) (len : Nat) : (s.setData d len).pblen = s.pblen := rfl
@[simp] theorem setData_prlen (d : List Byte) (len : Nat) : (s.setData d len).prlen = s.prlen := rfl
@[simp] theorem setData_exp (d : List Byte) (len : Nat) : (s.setData d len).exp = s.exp := rfl
@[simp] theorem setData_log (d : List Byte) (len : Nat) : (s.setData d len).log = s.log := rfl
@[simp] theorem setData_pay (d : List Byte) (len : Nat) : (s.setData d len).pay = s.pay := rfl
@[simp] theorem setData_bs (d : List Byte) (len : Nat) : (s.setData d len).bs = s.bs := rfl
@[simp] theorem setData_dcw (d : List Byte) (len : Nat) : (s.setData d len).dcw = writeRun s.dcw 0 d := rfl
@[simp] theorem setData_ecc (d : List Byte) (len : Nat) : (s.setData d len).ecc = s.ecc := rfl
@[simp] theorem setData_gen (d : List Byte) (len : Nat) : (s.setData d len).gen = s.gen := rfl
@[simp] theorem setData_pa (d : List Byte) (len : Nat) : (s.setData d len).pa = s.pa := rfl
@[simp] theorem setData_pb (d : List Byte) (len : Nat) : (s.setData d len).pb = s.pb := rfl
@[simp] theorem setData_pr (d : List Byte) (len : Nat) : (s.setData d len).pr = s.pr := rfl
@[simp] theorem setData_mx (d : List Byte) (len : Nat) : (s.setData d len).mx = s.mx := rfl
@[simp] theorem setData_script (d : List Byte) (len : Nat) : (s.setData d len).script = s.script := rfl
@[simp] theorem setData_returned (d : List Byte) (len : Nat) : (s.setData d len).returned = s.returned := rfl
@[simp] theorem setData_resets (d : List Byte) (len : Nat) : (s.setData d len).resets = s.resets := rfl

/-! ### setMatrix -/

@[simp] theorem setMatrix_die (mx : Vector Cell 441) (stage : BitVec 3) : (s.setMatrix mx stage).die = s.die := rfl
@[simp] theorem setMatrix_eie (mx : Vector Cell 441) (stage : BitVec 3) : (s.setMatrix mx stage).eie = s.eie := rfl
@[simp] theorem setMatrix_done (mx : Vector Cell 441) (stage : BitVec 3) : (s.setMatrix mx stage).done = s.done := rfl
@[simp] theorem setMatrix_err (mx : Vector Cell 441) (stage : BitVec 3) : (s.setMatrix mx stage).err = s.err := rfl
@[simp] theorem setMatrix_gfv (mx : Vector Cell 441) (stage : BitVec 3) : (s.setMatrix mx stage).gfv = s.gfv := rfl
@[simp] theorem setMatrix_bsst (mx : Vector Cell 441) (stage : BitVec 3) : (s.setMatrix mx stage).bsst = s.bsst := rfl
@[simp] theorem setMatrix_mxs (mx : Vector Cell 441) (stage : BitVec 3) : (s.setMatrix mx stage).mxs = stage := rfl
@[simp] theorem setMatrix_cause (mx : Vector Cell 441) (stage : BitVec 3) : (s.setMatrix mx stage).cause = s.cause := rfl
@[simp] theorem setMatrix_stage (mx : Vector Cell 441) (stage : BitVec 3) : (s.setMatrix mx stage).stage = s.stage := rfl
@[simp] theorem setMatrix_info (mx : Vector Cell 441) (stage : BitVec 3) : (s.setMatrix mx stage).info = s.info := rfl
@[simp] theorem setMatrix_fmt (mx : Vector Cell 441) (stage : BitVec 3) : (s.setMatrix mx stage).fmt = s.fmt := rfl
@[simp] theorem setMatrix_gfa (mx : Vector Cell 441) (stage : BitVec 3) : (s.setMatrix mx stage).gfa = s.gfa := rfl
@[simp] theorem setMatrix_gfb (mx : Vector Cell 441) (stage : BitVec 3) : (s.setMatrix mx stage).gfb = s.gfb := rfl
@[simp] theorem setMatrix_gfr (mx : Vector Cell 441) (stage : BitVec 3) : (s.setMatrix mx stage).gfr = s.gfr := rfl
@[simp] theorem setMatrix_plen (mx : Vector Cell 441) (stage : BitVec 3) : (s.setMatrix mx stage).plen = s.plen := rfl
@[simp] theorem setMatrix_blen (mx : Vector Cell 441) (stage : BitVec 3) : (s.setMatrix mx stage).blen = s.blen := rfl
@[simp] theorem setMatrix_dcwn (mx : Vector Cell 441) (stage : BitVec 3) : (s.setMatrix mx stage).dcwn = s.dcwn := rfl
@[simp] theorem setMatrix_eccn (mx : Vector Cell 441) (stage : BitVec 3) : (s.setMatrix mx stage).eccn = s.eccn := rfl
@[simp] theorem setMatrix_genlen (mx : Vector Cell 441) (stage : BitVec 3) : (s.setMatrix mx stage).genlen = s.genlen := rfl
@[simp] theorem setMatrix_palen (mx : Vector Cell 441) (stage : BitVec 3) : (s.setMatrix mx stage).palen = s.palen := rfl
@[simp] theorem setMatrix_pblen (mx : Vector Cell 441) (stage : BitVec 3) : (s.setMatrix mx stage).pblen = s.pblen := rfl
@[simp] theorem setMatrix_prlen (mx : Vector Cell 441) (stage : BitVec 3) : (s.setMatrix mx stage).prlen = s.prlen := rfl
@[simp] theorem setMatrix_exp (mx : Vector Cell 441) (stage : BitVec 3) : (s.setMatrix mx stage).exp = s.exp := rfl
@[simp] theorem setMatrix_log (mx : Vector Cell 441) (stage : BitVec 3) : (s.setMatrix mx stage).log = s.log := rfl
@[simp] theorem setMatrix_pay (mx : Vector Cell 441) (stage : BitVec 3) : (s.setMatrix mx stage).pay = s.pay := rfl
@[simp] theorem setMatrix_bs (mx : Vector Cell 441) (stage : BitVec 3) : (s.setMatrix mx stage).bs = s.bs := rfl
@[simp] theorem setMatrix_dcw (mx : Vector Cell 441) (stage : BitVec 3) : (s.setMatrix mx stage).dcw = s.dcw := rfl
@[simp] theorem setMatrix_ecc (mx : Vector Cell 441) (stage : BitVec 3) : (s.setMatrix mx stage).ecc = s.ecc := rfl
@[simp] theorem setMatrix_gen (mx : Vector Cell 441) (stage : BitVec 3) : (s.setMatrix mx stage).gen = s.gen := rfl
@[simp] theorem setMatrix_pa (mx : Vector Cell 441) (stage : BitVec 3) : (s.setMatrix mx stage).pa = s.pa := rfl
@[simp] theorem setMatrix_pb (mx : Vector Cell 441) (stage : BitVec 3) : (s.setMatrix mx stage).pb = s.pb := rfl
@[simp] theorem setMatrix_pr (mx : Vector Cell 441) (stage : BitVec 3) : (s.setMatrix mx stage).pr = s.pr := rfl
@[simp] theorem setMatrix_mx (mx : Vector Cell 441) (stage : BitVec 3) : (s.setMatrix mx stage).mx = mx := rfl
@[simp] theorem setMatrix_script (mx : Vector Cell 441) (stage : BitVec 3) : (s.setMatrix mx stage).script = s.script := rfl
@[simp] theorem setMatrix_returned (mx : Vector Cell 441) (stage : BitVec 3) : (s.setMatrix mx stage).returned = s.returned := rfl
@[simp] theorem setMatrix_resets (mx : Vector Cell 441) (stage : BitVec 3) : (s.setMatrix mx stage).resets = s.resets := rfl

/-! ### setScript -/

@[simp] theorem setScript_die (ts : List Transaction) : (s.setScript ts).die = s.die := rfl
@[simp] theorem setScript_eie (ts : List Transaction) : (s.setScript ts).eie = s.eie := rfl
@[simp] theorem setScript_done (ts : List Transaction) : (s.setScript ts).done = s.done := rfl
@[simp] theorem setScript_err (ts : List Transaction) : (s.setScript ts).err = s.err := rfl
@[simp] theorem setScript_gfv (ts : List Transaction) : (s.setScript ts).gfv = s.gfv := rfl
@[simp] theorem setScript_bsst (ts : List Transaction) : (s.setScript ts).bsst = s.bsst := rfl
@[simp] theorem setScript_mxs (ts : List Transaction) : (s.setScript ts).mxs = s.mxs := rfl
@[simp] theorem setScript_cause (ts : List Transaction) : (s.setScript ts).cause = s.cause := rfl
@[simp] theorem setScript_stage (ts : List Transaction) : (s.setScript ts).stage = s.stage := rfl
@[simp] theorem setScript_info (ts : List Transaction) : (s.setScript ts).info = s.info := rfl
@[simp] theorem setScript_fmt (ts : List Transaction) : (s.setScript ts).fmt = s.fmt := rfl
@[simp] theorem setScript_gfa (ts : List Transaction) : (s.setScript ts).gfa = s.gfa := rfl
@[simp] theorem setScript_gfb (ts : List Transaction) : (s.setScript ts).gfb = s.gfb := rfl
@[simp] theorem setScript_gfr (ts : List Transaction) : (s.setScript ts).gfr = s.gfr := rfl
@[simp] theorem setScript_plen (ts : List Transaction) : (s.setScript ts).plen = s.plen := rfl
@[simp] theorem setScript_blen (ts : List Transaction) : (s.setScript ts).blen = s.blen := rfl
@[simp] theorem setScript_dcwn (ts : List Transaction) : (s.setScript ts).dcwn = s.dcwn := rfl
@[simp] theorem setScript_eccn (ts : List Transaction) : (s.setScript ts).eccn = s.eccn := rfl
@[simp] theorem setScript_genlen (ts : List Transaction) : (s.setScript ts).genlen = s.genlen := rfl
@[simp] theorem setScript_palen (ts : List Transaction) : (s.setScript ts).palen = s.palen := rfl
@[simp] theorem setScript_pblen (ts : List Transaction) : (s.setScript ts).pblen = s.pblen := rfl
@[simp] theorem setScript_prlen (ts : List Transaction) : (s.setScript ts).prlen = s.prlen := rfl
@[simp] theorem setScript_exp (ts : List Transaction) : (s.setScript ts).exp = s.exp := rfl
@[simp] theorem setScript_log (ts : List Transaction) : (s.setScript ts).log = s.log := rfl
@[simp] theorem setScript_pay (ts : List Transaction) : (s.setScript ts).pay = s.pay := rfl
@[simp] theorem setScript_bs (ts : List Transaction) : (s.setScript ts).bs = s.bs := rfl
@[simp] theorem setScript_dcw (ts : List Transaction) : (s.setScript ts).dcw = s.dcw := rfl
@[simp] theorem setScript_ecc (ts : List Transaction) : (s.setScript ts).ecc = s.ecc := rfl
@[simp] theorem setScript_gen (ts : List Transaction) : (s.setScript ts).gen = s.gen := rfl
@[simp] theorem setScript_pa (ts : List Transaction) : (s.setScript ts).pa = s.pa := rfl
@[simp] theorem setScript_pb (ts : List Transaction) : (s.setScript ts).pb = s.pb := rfl
@[simp] theorem setScript_pr (ts : List Transaction) : (s.setScript ts).pr = s.pr := rfl
@[simp] theorem setScript_mx (ts : List Transaction) : (s.setScript ts).mx = s.mx := rfl
@[simp] theorem setScript_script (ts : List Transaction) : (s.setScript ts).script = ts := rfl
@[simp] theorem setScript_returned (ts : List Transaction) : (s.setScript ts).returned = s.returned := rfl
@[simp] theorem setScript_resets (ts : List Transaction) : (s.setScript ts).resets = s.resets := rfl

/-! ### pushReturned -/

@[simp] theorem pushReturned_die (v : Word) : (s.pushReturned v).die = s.die := rfl
@[simp] theorem pushReturned_eie (v : Word) : (s.pushReturned v).eie = s.eie := rfl
@[simp] theorem pushReturned_done (v : Word) : (s.pushReturned v).done = s.done := rfl
@[simp] theorem pushReturned_err (v : Word) : (s.pushReturned v).err = s.err := rfl
@[simp] theorem pushReturned_gfv (v : Word) : (s.pushReturned v).gfv = s.gfv := rfl
@[simp] theorem pushReturned_bsst (v : Word) : (s.pushReturned v).bsst = s.bsst := rfl
@[simp] theorem pushReturned_mxs (v : Word) : (s.pushReturned v).mxs = s.mxs := rfl
@[simp] theorem pushReturned_cause (v : Word) : (s.pushReturned v).cause = s.cause := rfl
@[simp] theorem pushReturned_stage (v : Word) : (s.pushReturned v).stage = s.stage := rfl
@[simp] theorem pushReturned_info (v : Word) : (s.pushReturned v).info = s.info := rfl
@[simp] theorem pushReturned_fmt (v : Word) : (s.pushReturned v).fmt = s.fmt := rfl
@[simp] theorem pushReturned_gfa (v : Word) : (s.pushReturned v).gfa = s.gfa := rfl
@[simp] theorem pushReturned_gfb (v : Word) : (s.pushReturned v).gfb = s.gfb := rfl
@[simp] theorem pushReturned_gfr (v : Word) : (s.pushReturned v).gfr = s.gfr := rfl
@[simp] theorem pushReturned_plen (v : Word) : (s.pushReturned v).plen = s.plen := rfl
@[simp] theorem pushReturned_blen (v : Word) : (s.pushReturned v).blen = s.blen := rfl
@[simp] theorem pushReturned_dcwn (v : Word) : (s.pushReturned v).dcwn = s.dcwn := rfl
@[simp] theorem pushReturned_eccn (v : Word) : (s.pushReturned v).eccn = s.eccn := rfl
@[simp] theorem pushReturned_genlen (v : Word) : (s.pushReturned v).genlen = s.genlen := rfl
@[simp] theorem pushReturned_palen (v : Word) : (s.pushReturned v).palen = s.palen := rfl
@[simp] theorem pushReturned_pblen (v : Word) : (s.pushReturned v).pblen = s.pblen := rfl
@[simp] theorem pushReturned_prlen (v : Word) : (s.pushReturned v).prlen = s.prlen := rfl
@[simp] theorem pushReturned_exp (v : Word) : (s.pushReturned v).exp = s.exp := rfl
@[simp] theorem pushReturned_log (v : Word) : (s.pushReturned v).log = s.log := rfl
@[simp] theorem pushReturned_pay (v : Word) : (s.pushReturned v).pay = s.pay := rfl
@[simp] theorem pushReturned_bs (v : Word) : (s.pushReturned v).bs = s.bs := rfl
@[simp] theorem pushReturned_dcw (v : Word) : (s.pushReturned v).dcw = s.dcw := rfl
@[simp] theorem pushReturned_ecc (v : Word) : (s.pushReturned v).ecc = s.ecc := rfl
@[simp] theorem pushReturned_gen (v : Word) : (s.pushReturned v).gen = s.gen := rfl
@[simp] theorem pushReturned_pa (v : Word) : (s.pushReturned v).pa = s.pa := rfl
@[simp] theorem pushReturned_pb (v : Word) : (s.pushReturned v).pb = s.pb := rfl
@[simp] theorem pushReturned_pr (v : Word) : (s.pushReturned v).pr = s.pr := rfl
@[simp] theorem pushReturned_mx (v : Word) : (s.pushReturned v).mx = s.mx := rfl
@[simp] theorem pushReturned_script (v : Word) : (s.pushReturned v).script = s.script := rfl
@[simp] theorem pushReturned_returned (v : Word) : (s.pushReturned v).returned = v :: s.returned := rfl
@[simp] theorem pushReturned_resets (v : Word) : (s.pushReturned v).resets = s.resets := rfl

/-! ### enterError -/

@[simp] theorem enterError_die (e : Raise) : (s.enterError e).die = s.die := rfl
@[simp] theorem enterError_eie (e : Raise) : (s.enterError e).eie = s.eie := rfl
@[simp] theorem enterError_done (e : Raise) : (s.enterError e).done = false := rfl
@[simp] theorem enterError_err (e : Raise) : (s.enterError e).err = true := rfl
@[simp] theorem enterError_gfv (e : Raise) : (s.enterError e).gfv = s.gfv := rfl
@[simp] theorem enterError_bsst (e : Raise) : (s.enterError e).bsst = s.bsst := rfl
@[simp] theorem enterError_mxs (e : Raise) : (s.enterError e).mxs = s.mxs := rfl
@[simp] theorem enterError_cause (e : Raise) : (s.enterError e).cause = e.cause := rfl
@[simp] theorem enterError_stage (e : Raise) : (s.enterError e).stage = e.stage := rfl
@[simp] theorem enterError_info (e : Raise) : (s.enterError e).info = e.info := rfl
@[simp] theorem enterError_fmt (e : Raise) : (s.enterError e).fmt = s.fmt := rfl
@[simp] theorem enterError_gfa (e : Raise) : (s.enterError e).gfa = s.gfa := rfl
@[simp] theorem enterError_gfb (e : Raise) : (s.enterError e).gfb = s.gfb := rfl
@[simp] theorem enterError_gfr (e : Raise) : (s.enterError e).gfr = s.gfr := rfl
@[simp] theorem enterError_plen (e : Raise) : (s.enterError e).plen = s.plen := rfl
@[simp] theorem enterError_blen (e : Raise) : (s.enterError e).blen = s.blen := rfl
@[simp] theorem enterError_dcwn (e : Raise) : (s.enterError e).dcwn = s.dcwn := rfl
@[simp] theorem enterError_eccn (e : Raise) : (s.enterError e).eccn = s.eccn := rfl
@[simp] theorem enterError_genlen (e : Raise) : (s.enterError e).genlen = s.genlen := rfl
@[simp] theorem enterError_palen (e : Raise) : (s.enterError e).palen = s.palen := rfl
@[simp] theorem enterError_pblen (e : Raise) : (s.enterError e).pblen = s.pblen := rfl
@[simp] theorem enterError_prlen (e : Raise) : (s.enterError e).prlen = s.prlen := rfl
@[simp] theorem enterError_exp (e : Raise) : (s.enterError e).exp = s.exp := rfl
@[simp] theorem enterError_log (e : Raise) : (s.enterError e).log = s.log := rfl
@[simp] theorem enterError_pay (e : Raise) : (s.enterError e).pay = s.pay := rfl
@[simp] theorem enterError_bs (e : Raise) : (s.enterError e).bs = s.bs := rfl
@[simp] theorem enterError_dcw (e : Raise) : (s.enterError e).dcw = s.dcw := rfl
@[simp] theorem enterError_ecc (e : Raise) : (s.enterError e).ecc = s.ecc := rfl
@[simp] theorem enterError_gen (e : Raise) : (s.enterError e).gen = s.gen := rfl
@[simp] theorem enterError_pa (e : Raise) : (s.enterError e).pa = s.pa := rfl
@[simp] theorem enterError_pb (e : Raise) : (s.enterError e).pb = s.pb := rfl
@[simp] theorem enterError_pr (e : Raise) : (s.enterError e).pr = s.pr := rfl
@[simp] theorem enterError_mx (e : Raise) : (s.enterError e).mx = s.mx := rfl
@[simp] theorem enterError_script (e : Raise) : (s.enterError e).script = s.script := rfl
@[simp] theorem enterError_returned (e : Raise) : (s.enterError e).returned = s.returned := rfl
@[simp] theorem enterError_resets (e : Raise) : (s.enterError e).resets = s.resets := rfl

/-! ### clearError -/

@[simp] theorem clearError_die : (s.clearError).die = s.die := rfl
@[simp] theorem clearError_eie : (s.clearError).eie = s.eie := rfl
@[simp] theorem clearError_done : (s.clearError).done = s.done := rfl
@[simp] theorem clearError_err : (s.clearError).err = false := rfl
@[simp] theorem clearError_gfv : (s.clearError).gfv = s.gfv := rfl
@[simp] theorem clearError_bsst : (s.clearError).bsst = s.bsst := rfl
@[simp] theorem clearError_mxs : (s.clearError).mxs = s.mxs := rfl
@[simp] theorem clearError_cause : (s.clearError).cause = .none := rfl
@[simp] theorem clearError_stage : (s.clearError).stage = 0 := rfl
@[simp] theorem clearError_info : (s.clearError).info = 0 := rfl
@[simp] theorem clearError_fmt : (s.clearError).fmt = s.fmt := rfl
@[simp] theorem clearError_gfa : (s.clearError).gfa = s.gfa := rfl
@[simp] theorem clearError_gfb : (s.clearError).gfb = s.gfb := rfl
@[simp] theorem clearError_gfr : (s.clearError).gfr = s.gfr := rfl
@[simp] theorem clearError_plen : (s.clearError).plen = s.plen := rfl
@[simp] theorem clearError_blen : (s.clearError).blen = s.blen := rfl
@[simp] theorem clearError_dcwn : (s.clearError).dcwn = s.dcwn := rfl
@[simp] theorem clearError_eccn : (s.clearError).eccn = s.eccn := rfl
@[simp] theorem clearError_genlen : (s.clearError).genlen = s.genlen := rfl
@[simp] theorem clearError_palen : (s.clearError).palen = s.palen := rfl
@[simp] theorem clearError_pblen : (s.clearError).pblen = s.pblen := rfl
@[simp] theorem clearError_prlen : (s.clearError).prlen = s.prlen := rfl
@[simp] theorem clearError_exp : (s.clearError).exp = s.exp := rfl
@[simp] theorem clearError_log : (s.clearError).log = s.log := rfl
@[simp] theorem clearError_pay : (s.clearError).pay = s.pay := rfl
@[simp] theorem clearError_bs : (s.clearError).bs = s.bs := rfl
@[simp] theorem clearError_dcw : (s.clearError).dcw = s.dcw := rfl
@[simp] theorem clearError_ecc : (s.clearError).ecc = s.ecc := rfl
@[simp] theorem clearError_gen : (s.clearError).gen = s.gen := rfl
@[simp] theorem clearError_pa : (s.clearError).pa = s.pa := rfl
@[simp] theorem clearError_pb : (s.clearError).pb = s.pb := rfl
@[simp] theorem clearError_pr : (s.clearError).pr = s.pr := rfl
@[simp] theorem clearError_mx : (s.clearError).mx = s.mx := rfl
@[simp] theorem clearError_script : (s.clearError).script = s.script := rfl
@[simp] theorem clearError_returned : (s.clearError).returned = s.returned := rfl
@[simp] theorem clearError_resets : (s.clearError).resets = s.resets := rfl

end Sys2Proof.Machine.State
end

