-- ==== Sys2Proof/Laws/Ops.lean ====
section
/-! SUPPORT. What the shared operations can do: a guard, a chain of stages, the frame of a command, the host port. -/

namespace Sys2Proof.Machine

/-- A guard either lets the rest run or raises in the state it was checked in. -/
theorem require_cases {ok : Bool} {e : Raise} {s : State} {rest r : Ran} (h : require ok e s rest = r) :
    (ok = true ∧ r = rest) ∨ (ok = false ∧ r = .raised e s) := by
  cases ok <;> simp [require] at h <;> simp [h]

@[simp] theorem require_true (e : Raise) (s : State) (rest : Ran) : require true e s rest = rest := rfl

@[simp] theorem require_false (e : Raise) (s : State) (rest : Ran) : require false e s rest = .raised e s := rfl

@[simp] theorem runStages_nil (s : State) : runStages [] s = .done s := rfl

theorem runStages_done {body : State → Ran} {bodies : List (State → Ran)} {s t : State} (h : body s = .done t) :
    runStages (body :: bodies) s = runStages bodies t := by simp [runStages, h]

theorem runStages_raised {body : State → Ran} {bodies : List (State → Ran)} {s t : State} {e : Raise}
    (h : body s = .raised e t) : runStages (body :: bodies) s = .raised e t := by simp [runStages, h]

/-- EVERYTHING A COMMAND CAN DO (R81): be ignored, complete, or enter an error. -/
theorem runCommand_cases {c : Bool} {body : State → Ran} {s t : State} (h : runCommand c body s = .next t) :
    (s.err = true ∧ c = false ∧ t = s) ∨
    (∃ u, body (s.setDone false) = .done u ∧ t = u.setDone true) ∨
    (∃ e u, body (s.setDone false) = .raised e u ∧ t = u.enterError e) := by
  unfold runCommand at h
  split at h
  · rename_i hp
    simp at hp h
    exact .inl ⟨hp.1, hp.2, h.symm⟩
  · split at h
    · rename_i u hu
      simp at h
      exact .inr (.inl ⟨u, hu, h.symm⟩)
    · rename_i e u hu
      simp at h
      exact .inr (.inr ⟨e, u, hu, h.symm⟩)

/-- A command never stops the machine. -/
theorem runCommand_next (c : Bool) (body : State → Ran) (s : State) : ∃ t, runCommand c body s = .next t := by
  unfold runCommand
  split
  · exact ⟨_, rfl⟩
  · split <;> exact ⟨_, rfl⟩

theorem runCommand_ignored {body : State → Ran} {s : State} (h : s.err = true) : runCommand false body s = .next s := by
  simp [runCommand, h]

theorem runCommand_done {c : Bool} {body : State → Ran} {s t : State} (h : s.err = false ∨ c = true)
    (hb : body (s.setDone false) = .done t) : runCommand c body s = .next (t.setDone true) := by
  have : (s.err && !c) = false := by rcases h with h | h <;> simp [h]
  simp [runCommand, this, hb]

theorem runCommand_raised {c : Bool} {body : State → Ran} {s t : State} {e : Raise} (h : s.err = false ∨ c = true)
    (hb : body (s.setDone false) = .raised e t) : runCommand c body s = .next (t.enterError e) := by
  have : (s.err && !c) = false := by rcases h with h | h <;> simp [h]
  simp [runCommand, this, hb]

/-- The rule of each command, without the frame. -/
def bodyOf : Instr → State → Ran
  | .nop => bodyNop
  | .gfbuild => bodyGfbuild
  | .gfmul => bodyGfmul
  | .pmul => bodyPmul
  | .pdiv => bodyPdiv
  | .rsgen n => bodyRsgen n
  | .rsenc => bodyRsenc
  | .bsenc => bodyBsenc
  | .bspad => bodyBspad
  | .bssplit => bodyBssplit
  | .mxinit => bodyMxinit
  | .mxfind => bodyMxfind
  | .mxtime => bodyMxtime
  | .mxfrsv => bodyMxfrsv
  | .mxplace => bodyMxplace
  | .mxmask => bodyMxmask
  | .mxfmt => bodyMxfmt
  | .encode => bodyEncode
  | .clrerr => bodyClrerr

/-- The meaning of every command is the frame around its rule; CLRERR alone is accepted while an error is pending. -/
theorem exec_eq_runCommand (i : Instr) (s : State) : exec i s = runCommand (i == .clrerr) (bodyOf i) s := by
  cases i <;> rfl

/-! ### The host port -/

theorem locate_cmd : locate cmdAddress = .reg .cmd := by decide

theorem perform_read (a : Word) (s : State) : perform (.read a) s = .next (s.pushReturned (memRead s a)) := rfl

theorem perform_reset (s : State) : perform .reset s = .next (resetMachine s) := rfl

theorem hostWrite_cmd (w : Word) (s : State) : hostWrite cmdAddress w s = execWord w s := by simp [hostWrite]

theorem hostWrite_other {a : Word} (h : a ≠ cmdAddress) (v : Word) (s : State) :
    hostWrite a v s = .next (memWrite s a v) := by simp [hostWrite, h]

/-- What a host read returns depends on the architectural state only, not on the model's own fields. -/
theorem memRead_setScript (s : State) (ts : List Transaction) (a : Word) : memRead (s.setScript ts) a = memRead s a := by
  unfold memRead readLocation
  split <;> rfl

theorem memRead_pushReturned (s : State) (v a : Word) : memRead (s.pushReturned v) a = memRead s a := by
  unfold memRead readLocation
  split <;> rfl

/-- A host write does not touch the model's own fields. -/
theorem memWrite_script (s : State) (a v : Word) :
    (memWrite s a v).script = s.script ∧ (memWrite s a v).returned = s.returned ∧ (memWrite s a v).resets = s.resets := by
  unfold memWrite writeLocation
  split <;> first | exact ⟨rfl, rfl, rfl⟩ | (unfold writeReg; split <;> exact ⟨rfl, rfl, rfl⟩)

end Sys2Proof.Machine
end

