-- ==== Sys2Proof/Laws/PerInstr.lean ====
section
/-! SUPPORT. A statement for every command: its encoded word carries the opcode and the immediate of its row (R80, R82, R83). -/

namespace Sys2Proof.Laws.OpcodeByte

/-- RSGEN's word has opcode 0x12 and its count for an immediate; any other command's word has the immediate 0 and the opcode under
which the decoder's table lists the command. -/
def Statement : Instr → Prop
  | .rsgen n => opcOf (encode (.rsgen n)) = 0x12 ∧ immOf (encode (.rsgen n)) = BitVec.ofNat 8 n
  | i => immOf (encode i) = 0 ∧ c0Rows.lookup (opcOf (encode i)) = some i

theorem nop : Statement .nop := ⟨rfl, rfl⟩
theorem gfbuild : Statement .gfbuild := ⟨rfl, rfl⟩
theorem gfmul : Statement .gfmul := ⟨rfl, rfl⟩
theorem pmul : Statement .pmul := ⟨rfl, rfl⟩
theorem pdiv : Statement .pdiv := ⟨rfl, rfl⟩

theorem rsgen_word (b : Byte) :
    opcOf (0x1200 ||| b.setWidth 16 : Word) = 0x12 ∧ immOf (0x1200 ||| b.setWidth 16 : Word) = b := by
  revert b; decide +kernel

theorem rsgen (n : Nat) : Statement (.rsgen n) := rsgen_word (BitVec.ofNat 8 n)

theorem rsenc : Statement .rsenc := ⟨rfl, rfl⟩
theorem bsenc : Statement .bsenc := ⟨rfl, rfl⟩
theorem bspad : Statement .bspad := ⟨rfl, rfl⟩
theorem bssplit : Statement .bssplit := ⟨rfl, rfl⟩
theorem mxinit : Statement .mxinit := ⟨rfl, rfl⟩
theorem mxfind : Statement .mxfind := ⟨rfl, rfl⟩
theorem mxtime : Statement .mxtime := ⟨rfl, rfl⟩
theorem mxfrsv : Statement .mxfrsv := ⟨rfl, rfl⟩
theorem mxplace : Statement .mxplace := ⟨rfl, rfl⟩
theorem mxmask : Statement .mxmask := ⟨rfl, rfl⟩
theorem mxfmt : Statement .mxfmt := ⟨rfl, rfl⟩
theorem encode : Statement .encode := ⟨rfl, rfl⟩
theorem clrerr : Statement .clrerr := ⟨rfl, rfl⟩

end Sys2Proof.Laws.OpcodeByte
end

