-- ==== Sys2Proof/Laws/ReedSolomon.lean ====
section
/-! SUPPORT. Lengths of the polynomial functions, and when a length register is a legal operand length. -/

namespace Sys2Proof.Machine

variable (mul : Byte → Byte → Byte)

@[simp] theorem length_pmul (p q : List Byte) : (pmul mul p q).length = p.length + q.length - 1 := by simp [pmul]

theorem getElem_pmul (p q : List Byte) (k : Nat) (h : k < (pmul mul p q).length) : (pmul mul p q)[k] = productAt mul p q k := by
  simp [pmul]

@[simp] theorem length_divideAt (d w : List Byte) (i : Nat) : (divideAt mul d w i).length = w.length := by
  unfold divideAt; dsimp only; split <;> simp

theorem length_foldl_divideAt (d w : List Byte) (is : List Nat) : (is.foldl (divideAt mul d) w).length = w.length := by
  induction is generalizing w with
  | nil => rfl
  | cons i is ih => simp [ih]

/-- The remainder has one entry fewer than the divisor (R123). -/
theorem length_pdivrem (u d : List Byte) (h1 : 1 ≤ d.length) (h : d.length ≤ u.length) :
    (pdivrem mul u d).length = d.length - 1 := by
  simp [pdivrem, length_foldl_divideAt]; omega

theorem length_genpoly (exp : Vector Byte 512) (n : Nat) : (genpoly exp mul n).length = n + 1 := by
  unfold genpoly
  induction n with
  | zero => rfl
  | succ n ih => simp only [List.range_succ, List.foldl_append, List.foldl_cons, List.foldl_nil, length_pmul, ih]; simp

/-- "The result has exactly `n` entries" (R127). -/
theorem length_rsRemainder (data g : List Byte) (h : 1 ≤ g.length) : (rsRemainder mul data g).length = g.length - 1 := by
  unfold rsRemainder
  dsimp only
  split
  · simp
  · rw [length_pdivrem _ _ _ h (by simp; omega)]

theorem legalLength_iff (len : BitVec 6) : legalLength len = true ↔ 1 ≤ len.toNat ∧ len.toNat ≤ 32 := by
  rw [legalLength, Config.polyMax, decide_eq_true_eq]

theorem length_paOperand {s : State} (h : s.palen.toNat ≤ 32) : (paOperand s).length = s.palen.toNat := by
  simp [paOperand]; omega

theorem length_pbOperand {s : State} (h : s.pblen.toNat ≤ 32) : (pbOperand s).length = s.pblen.toNat := by
  simp [pbOperand]; omega

theorem length_dataOperand {s : State} (h : s.dcwn.toNat ≤ 32) : (dataOperand s).length = s.dcwn.toNat := by
  simp [dataOperand]; omega

theorem length_genOperand {s : State} (h : s.genlen.toNat ≤ 32) : (genOperand s).length = s.genlen.toNat := by
  simp [genOperand]; omega

end Sys2Proof.Machine
end

