-- ==== Sys2Proof/Machine/Script.lean ====
section
/-! DEFINITION. The lines of a host script as transactions (R86) and the pseudo-instructions' expansions (R87).  The text of a
script (its lexical form, names and comments) is the host's and is not modelled. -/

namespace Sys2Proof.Machine

/-- A file's or register's base address plus an index (R86). -/
def placed (base i : Nat) : Word := BitVec.ofNat 16 (base + i)

/-- `command`: the write of the command's word to CMD (R86). -/
def commandLine (i : Instr) : Transaction := .write cmdAddress (encode i)

/-- `WR base+i, v_i` for each i, then `WR len, count`: the shape of the five LOAD pseudo-instructions (R87). -/
def loadFile (base len : Nat) (vs : List Word) : List Transaction :=
  (vs.zipIdx.map fun p => .write (placed base p.2) p.1) ++ [.write (placed len 0) (BitVec.ofNat 16 vs.length)]

/-- The entry a front end delivers for a character: its code point, or 256 where that is above 255 (R87; R221 leaves the map to
the front end). -/
def payloadEntry (c : Char) : Word := if 255 < c.toNat then 256 else BitVec.ofNat 16 c.toNat

/-- `LOADPAY "text"` (R87). -/
def loadPay (text : List Char) : List Transaction := loadFile 0x0500 0x000D (text.map payloadEntry)

/-- `LOADPAYB [b0, ...]` (R87). -/
def loadPayBytes (bs : List Word) : List Transaction := loadFile 0x0500 0x000D bs

/-- `LOADDCW [d0, ...]` (R87). -/
def loadDcw (ds : List Word) : List Transaction := loadFile 0x0600 0x000F ds

/-- `LOADPA [a0, ...]` (R87). -/
def loadPa (as : List Word) : List Transaction := loadFile 0x0680 0x0012 as

/-- `LOADPB [b0, ...]` (R87). -/
def loadPb (bs : List Word) : List Transaction := loadFile 0x06A0 0x0013 bs

/-- `SETFMT v` (R87). -/
def setFmt (v : Word) : List Transaction := [.write 0x0009 v]

/-- `INIT` (R87, R254). -/
def initScript : List Transaction := [commandLine .gfbuild]

/-- `BUILDMX` (R87). -/
def buildMx : List Transaction :=
  [.mxinit, .mxfind, .mxtime, .mxfrsv, .mxplace, .mxmask, .mxfmt].map commandLine

/-- `CELL r, c` (R87). -/
def readCell (r c : Nat) : Transaction := .read (placed 0x0800 (21 * r + c))

end Sys2Proof.Machine
end

