-- ==== Sys2Proof/Tests/Slice0.lean ====
section
/-! SUPPORT. Tests on small states, with the expected values of the spec's vectors (95_test_vectors.md), and the witnesses: for every
statement with hypotheses, states that meet them. -/

namespace Sys2Proof.Tests

open Sys2Proof.Machine

-- One theorem after another: each thread that checks one takes a stack of its own.
set_option Elab.async false

/-! ### Small states -/

/-- The state after reset with every file holding zeros: a definite choice of what R252 leaves open, for tests only. -/
def blank : State :=
  { State.reset with
    exp := tabulate 512 fun _ => 0, log := tabulate 256 fun _ => 0, pay := tabulate 256 fun _ => 0
    bs := tabulate 2052 fun _ => false, dcw := tabulate 32 fun _ => 0, ecc := tabulate 32 fun _ => 0
    gen := tabulate 32 fun _ => 0, pa := tabulate 32 fun _ => 0, pb := tabulate 32 fun _ => 0
    pr := tabulate 64 fun _ => 0, mx := tabulate 441 fun _ => ⟨false, false, false⟩ }

/-- `blank` with the tables as printed in R102, and other values in the three entries that nothing writes. -/
def tables : State :=
  { blank with
    exp := ⟨(Spec.expTable ++ Spec.expTable ++ [0x5A, 0xC3]).toArray, by decide +kernel⟩
    log := ⟨(0x77 :: Spec.logTable.tail).toArray, by decide +kernel⟩
    gfv := true }

/-- `tables` with two operand polynomials. -/
def polys (a b : List Byte) : State :=
  { tables with
    pa := writeRun tables.pa 0 a, palen := BitVec.ofNat 6 a.length, pb := writeRun tables.pb 0 b, pblen := BitVec.ofNat 6 b.length }

/-- `s` with a payload. -/
def withPay (s : State) (p : List (BitVec 9)) : State := { s with pay := writeRun s.pay 0 p, plen := BitVec.ofNat 8 p.length }

/-- `s` with data codewords. -/
def withData (s : State) (d : List Byte) : State := { s with dcw := writeRun s.dcw 0 d, dcwn := BitVec.ofNat 6 d.length }

/-- `s` with a generator. -/
def withGen (s : State) (g : List Byte) : State := { s with gen := writeRun s.gen 0 g, genlen := BitVec.ofNat 6 g.length }

/-- `s` with ECC codewords. -/
def withEcc (s : State) (c : List Byte) : State := { s with ecc := writeRun s.ecc 0 c, eccn := BitVec.ofNat 6 c.length }

/-- `s` with a bit stream. -/
def withBits (s : State) (b : List Bool) (st : BitState) : State :=
  { s with bs := writeRun s.bs 0 b, blen := BitVec.ofNat 12 b.length, bsst := st }

/-- `s` with an error pending, as a BSPAD leaves it that found no stream (T54). -/
def failing (s : State) : State := { s with err := true, cause := .sequence, stage := 0x21, info := 0x0002 }

/-- Bit `c` of a row printed with column 0 first. -/
def digit (rows : List Nat) (r c : Nat) : Bool := (rows.getD r 0).testBit (20 - c)

/-- A matrix from its V, R and D planes. -/
def planes (v r d : Nat → Nat → Bool) : Vector Cell 441 :=
  tabulate 441 fun k => ⟨v (k / 21) (k % 21), r (k / 21) (k % 21), d (k / 21) (k % 21)⟩

/-- The picture of R180: the matrix after stage 4. -/
def picture : Vector Cell 441 :=
  planes (fun r c => Spec.mark r c == 1 || Spec.mark r c == 4) (fun r c => Spec.mark r c != 0) fun _ _ => false

/-- The V plane of T41, after MXPLACE. -/
def planeT41 : List Nat :=
  [0b111111100111001111111, 0b100000100010001000001, 0b101110100111001011101, 0b101110100000001011101,
   0b101110100000001011101, 0b100000100101101000001, 0b111111101010101111111, 0b000000000000100000000,
   0b000000100101100000000, 0b111001011101011101100, 0b111101101100001000100, 0b000011011001011101110,
   0b100111100010000000000, 0b000000000100000000000, 0b111111100001110111010, 0b100000100010100010010,
   0b101110100111110111000, 0b101110100011011101100, 0b101110100110001000100, 0b100000100101011101100,
   0b111111100100000000010]

/-- The V plane of T42, after MXMASK. -/
def planeT42 : List Nat :=
  [0b111111100101101111111, 0b100000100111001000001, 0b101110100101101011101, 0b101110100101001011101,
   0b101110100010101011101, 0b100000100000101000001, 0b111111101010101111111, 0b000000000101100000000,
   0b000000100111000000000, 0b101100001000001000110, 0b010111100110100010001, 0b010110001100001000100,
   0b001101101000101010101, 0b000000000001010101010, 0b111111100011011101111, 0b100000100111110111000,
   0b101110100101011101101, 0b101110100110001000110, 0b101110100100100010001, 0b100000100000001000110,
   0b111111100110101010111]

/-- The V plane of T44, after MXFMT and after ENCODE. -/
def planeT44 : List Nat :=
  [0b111111100101101111111, 0b100000100111001000001, 0b101110101101101011101, 0b101110100101001011101,
   0b101110100010101011101, 0b100000100000101000001, 0b111111101010101111111, 0b000000001101100000000,
   0b111011111111011000100, 0b101100001000001000110, 0b010111100110100010001, 0b010110001100001000100,
   0b001101101000101010101, 0b000000001001010101010, 0b111111101011011101111, 0b100000101111110111000,
   0b101110101101011101101, 0b101110100110001000110, 0b101110101100100010001, 0b100000101000001000110,
   0b111111101110101010111]

/-- A matrix with a V plane, every cell reserved, and the data cells of the D plane of T41. -/
def placedMatrix (v : List Nat) : Vector Cell 441 := planes (digit v) (fun _ _ => true) fun r c => Spec.mark r c == 0

/-- The data codewords of T31. -/
def dataA : List Byte :=
  [0x40, 0x14, 0x10, 0xEC, 0x11, 0xEC, 0x11, 0xEC, 0x11, 0xEC, 0x11, 0xEC, 0x11, 0xEC, 0x11, 0xEC, 0x11, 0xEC, 0x11]

/-- The ECC codewords of T23. -/
def eccA : List Byte := [0x52, 0x4B, 0xB5, 0x3B, 0xAF, 0x8D, 0xF1]

/-- The generator of T19 for 7 symbols. -/
def gen7 : List Byte := [0x01, 0x7F, 0x7A, 0x9A, 0xA4, 0x0B, 0x44, 0x75]

/-- `s` at matrix stage `n` with the matrix `m`. -/
def atStage (s : State) (n : BitVec 3) (m : Vector Cell 441) : State := { s with mxs := n, mx := m }

/-- The outcome is a next state of which `p` holds. -/
def gives (o : Host.Outcome State Fault Refusal) (p : State → Bool) : Bool :=
  match o with
  | .next t => p t
  | .fault _ | .refused _ => false

/-- What the host reads at an address, as a number: the kernel compares numbers faster than bit vectors. -/
def word (t : State) (a : Word) : Nat := (memRead t a).toNat

/-- The words at STATUS, ERR and INFO. -/
def flags (t : State) : Nat × Nat × Nat := (word t 0x0005, word t 0x0007, word t 0x0008)

/-- Bytes as numbers. -/
def nats (l : List Byte) : List Nat := l.map BitVec.toNat

/-- A cell as the host reads it, V in bit 0, R in bit 1, D in bit 2. -/
def cell (t : State) (r c : Nat) : Nat := (cellWord (Spec.cellAt t.mx r c)).toNat

/-- A plane of a matrix as one number, cell (0, 0) its highest bit. -/
def plane (f : Cell → Bool) (m : Vector Cell 441) : Nat := m.toList.foldl (fun n x => 2 * n + bit (f x)) 0

/-- A printed plane as one number. -/
def printed (rows : List Nat) : Nat := rows.foldl (fun n row => 2 ^ 21 * n + row) 0

/-- The D plane of T41: the cells the picture leaves unreserved. -/
def planeD : Nat := plane (fun x => !x.r) picture

/-- The matrix has the V plane `v`, every cell reserved, and the data cells of T41. -/
def finished (m : Vector Cell 441) (v : List Nat) : Bool :=
  plane Cell.v m == printed v && plane Cell.d m == planeD && m.toList.all Cell.r

/-- How many cells satisfy `p`. -/
def cells (t : State) (p : Cell → Bool) : Nat := (t.mx.toList.filter p).length

/-! ### Well-formedness (the one check: RSGEN's count is an unsigned 8-bit value, R83) -/

theorem test_wellFormed_accepts : (Instr.rsgen 255).WellFormed ∧ (Instr.rsgen 0).WellFormed ∧ Instr.encode.WellFormed := by decide

theorem test_wellFormed_refuses_256 : ¬ (Instr.rsgen 256).WellFormed := by decide

/-! ### Decoding: words written out bit by bit, OPC in bits 15:8 and IMM in bits 7:0 (R80, R82) -/

theorem test_decode_control : decode 0b0000000000000000 = .ok .nop ∧ decode 0b0111111000000000 = .ok .clrerr := by decide

theorem test_decode_gf : decode 0b0000000100000000 = .ok .gfbuild ∧ decode 0b0000001000000000 = .ok .gfmul := by decide

theorem test_decode_reed_solomon :
    decode 0b0001000000000000 = .ok .pmul ∧ decode 0b0001000100000000 = .ok .pdiv ∧
    decode 0b0001001000000111 = .ok (.rsgen 7) ∧ decode 0b0001001000011111 = .ok (.rsgen 31) ∧
    decode 0b0001001010000000 = .ok (.rsgen 128) ∧ decode 0b0001001100000000 = .ok .rsenc := by decide

theorem test_decode_bit_stream :
    decode 0b0010000000000000 = .ok .bsenc ∧ decode 0b0010000100000000 = .ok .bspad ∧
    decode 0b0010001000000000 = .ok .bssplit := by decide

theorem test_decode_matrix :
    decode 0b0011000000000000 = .ok .mxinit ∧ decode 0b0011000100000000 = .ok .mxfind ∧
    decode 0b0011001000000000 = .ok .mxtime ∧ decode 0b0011001100000000 = .ok .mxfrsv ∧
    decode 0b0011010000000000 = .ok .mxplace ∧ decode 0b0011010100000000 = .ok .mxmask ∧
    decode 0b0011011000000000 = .ok .mxfmt := by decide

theorem test_decode_pipeline : decode 0b0100000000000000 = .ok .encode := by decide

/-- The words of T53. -/
theorem test_decode_rejects :
    decode 0x0001 = .error (.nonzeroImmediate 0x00 0x01) ∧ decode 0x0300 = .error (.reservedOpcode 0x03) ∧
    decode 0x4001 = .error (.nonzeroImmediate 0x40 0x01) ∧ decode 0x7E01 = .error (.nonzeroImmediate 0x7E 0x01) ∧
    decode 0x7F00 = .error (.reservedOpcode 0x7F) ∧ decode 0xFFFF = .error (.reservedOpcode 0xFF) := by decide

theorem test_table_word : decodeTableWord 16 0x1207 = some (.rsgen 7) ∧ decodeTableWord 16 0x7F00 = none := by decide

/-! ### Control and errors (T36, T52 to T55) -/

theorem test_nop : gives (exec .nop blank) fun t => flags t == (0x0002, 0, 0) := by decide +kernel

theorem test_clrerr : gives (exec .clrerr (failing blank)) fun t => flags t == (0x0002, 0, 0) := by decide +kernel

/-- T54: with an error pending every word but 0x7E00 is ignored. -/
theorem test_pending_error_ignores :
    ([0x0100, 0xFFFF, 0x0000, 0x7E01].all fun w => gives (execWord w (failing blank)) fun t =>
      flags t == (0x0004, 0x2105, 0x0002)) = true := by decide +kernel

/-- T54, T53 and T58 as steps: a PMUL while an error is pending, an undecodable word, a write to PLEN. -/
theorem test_step_writes :
    gives (step { failing tables with script := [.write 0x0006 0x1000] }) (fun t =>
      flags t == (0x000C, 0x2105, 0x0002) && t.script == []) ∧
    gives (step { blank with script := [.write 0x0006 0x7F00] }) (fun t => flags t == (0x0004, 0x7F04, 0x7F00)) ∧
    gives (step { failing blank with script := [.write 0x000D 5] }) (fun t => word t 0x000D == 5 && t.script == []) := by
  decide +kernel

/-- T53, last line: DONE of the NOP before is cleared. -/
theorem test_illegal : gives (execWord 0x0101 { blank with done := true }) fun t => flags t == (0x0004, 0x0104, 0x0101) := by
  decide +kernel

/-- T55. -/
theorem test_irq :
    irq { blank with die := true, eie := true } = false ∧ irq { blank with done := true, die := true } = true ∧
    irq { failing blank with eie := true } = true ∧ irq { failing blank with die := true } = false := by decide

/-! ### The host port (T51, T52, T58) -/

theorem test_reads_after_reset :
    memRead State.reset 0x0000 = 0x5152 ∧ memRead State.reset 0x0001 = 0x0001 ∧ memRead State.reset 0x0002 = 0x0098 ∧
    memRead State.reset 0x0003 = 0x1307 ∧ memRead State.reset 0x0009 = 0xF7C4 ∧ memRead State.reset 0x0005 = 0 := by
  decide +kernel

theorem test_status_write_one_clears :
    memRead (memWrite { blank with done := true } 0x0005 0x0002) 0x0005 = 0x0000 ∧
    memRead (memWrite { blank with done := true } 0x0005 0xFFFD) 0x0005 = 0x0002 := by decide +kernel

/-- T15, T18, T37, T58: the width of a location decides what a write keeps; read-only and unmapped locations ignore it. -/
theorem test_host_writes :
    memRead (memWrite blank 0x000A 0x01FF) 0x000A = 0xFF ∧ memRead (memWrite blank 0x0012 0x0045) 0x0012 = 0x05 ∧
    memRead (memWrite blank 0x0500 0x03FF) 0x0500 = 0x01FF ∧ memRead (memWrite blank 0x000D 0x0100) 0x000D = 0 ∧
    memRead (memWrite blank 0x0004 0xFFFF) 0x0004 = 0x0003 ∧ memRead (memWrite blank 0x000E 5) 0x000E = 0 ∧
    memRead (memWrite blank 0x0800 7) 0x0800 = 0 ∧ memRead (memWrite tables 0x0200 0x12) 0x0200 = 0x01 := by decide +kernel

theorem test_unmapped_reads :
    memRead tables 0x0015 = 0 ∧ memRead tables 0x0100 = 0 ∧ memRead tables 0x09B9 = 0 ∧ memRead tables 0x1804 = 0 ∧
    memRead tables 0xFFFF = 0 := by decide +kernel

/-- A step takes the next transaction; with none it idles; a read appends its datum. -/
theorem test_step :
    gives (step (blank.withFetchWord 16 0x0000)) (fun t => t.done && t.script == []) ∧
    gives (step { blank with script := [.read 0x0000, .reset] }) (fun t => t.returned == [0x5152] && t.script == [.reset]) ∧
    gives (step { tables with script := [.reset], die := true }) (fun t => !t.gfv && !t.die && t.resets == 1) := by decide +kernel

/-- R87: a LOAD pseudo-instruction and the address of a cell (P1). -/
theorem test_script :
    loadPay ['A'] = [.write 0x0500 0x0041, .write 0x000D 0x0001] ∧ loadPay ['π'] = [.write 0x0500 0x0100, .write 0x000D 0x0001] ∧
    loadPb [1, 2] = [.write 0x06A0 1, .write 0x06A1 2, .write 0x0013 2] ∧ initScript = [.write 0x0006 0x0100] ∧
    readCell 20 20 = .read 0x09B8 ∧ readCell 13 8 = .read 0x0919 := by decide

/-! ### The GF engine (T10, T12 to T14) -/

theorem test_gfbuild : gives (exec .gfbuild blank) fun t =>
    flags t == (0x000A, 0, 0) && (entry t.exp 8).toNat == 0x1D && (entry t.exp 255).toNat == 0x01 && (entry t.exp 509).toNat == 0x8E &&
      (entry t.log 0x03).toNat == 25 && (entry t.log 0x8E).toNat == 254 && (entry t.log 0xFF).toNat == 175 := by decide +kernel

theorem test_gfbuild_keeps_three_entries : gives (exec .gfbuild { tables with gfv := false }) fun t =>
    (entry t.exp 510).toNat == 0x5A && (entry t.exp 511).toNat == 0xC3 && (entry t.log 0).toNat == 0x77 && t.gfv := by decide +kernel

theorem test_gfmul :
    ([((0x00 : Byte), (0x53 : Byte), (0x00 : Byte)), (0x01, 0xCA, 0xCA), (0x02, 0x80, 0x1D), (0x8E, 0x02, 0x01), (0x8E, 0x8E, 0x47),
      (0xFF, 0xFF, 0xE2), (0x53, 0xCA, 0x8F), (0x57, 0x83, 0x31)].all fun x =>
        gives (exec .gfmul { tables with gfa := x.1, gfb := x.2.1 }) fun t => t.gfr.toNat == x.2.2.toNat && word t 0x0005 == 0x000A) = true := by
  decide +kernel

theorem test_gfmul_without_tables : gives (exec .gfmul { blank with gfa := 2, gfb := 3 }) fun t =>
    flags t == (0x0004, 0x0205, 0x0001) && t.gfr.toNat == 0 := by decide +kernel

/-! ### The Reed-Solomon unit (T16 to T27) -/

theorem test_pmul : gives (exec .pmul (polys [0x12, 0x34] [0x56, 0x78])) fun t =>
    nats (leading t.pr 3) == [0xA5, 0x7D, 0x95] && word t 0x0014 == 3 && word t 0x0005 == 0x000A := by decide +kernel

theorem test_pmul_operand : gives (exec .pmul { polys [0, 0] [] with pblen := 33 }) fun t =>
    flags t == (0x000C, 0x1006, 0x0002) && t.prlen.toNat == 0 := by decide +kernel

theorem test_pdiv : gives (exec .pdiv (polys [0x12, 0x34, 0x56, 0, 0] [1, 3, 2])) fun t =>
    nats (leading t.pr 2) == [0x98, 0xE8] && word t 0x0014 == 2 := by decide +kernel

/-- T17: a divisor that is not monic; T18: the dividend is shorter than the divisor. -/
theorem test_pdiv_corners :
    gives (exec .pdiv (polys [1, 0, 0] [2, 1])) (fun t => nats (leading t.pr 1) == [0x01] && t.prlen.toNat == 1) ∧
    gives (exec .pdiv { blank with gfv := true, palen := 2, pblen := 3 }) (fun t => flags t == (0x000C, 0x1106, 0x0003)) := by
  decide +kernel

theorem test_rsgen : gives (exec (.rsgen 7) tables) fun t =>
    nats (leading t.gen 8) == nats gen7 && word t 0x0011 == 8 && word t 0x0005 == 0x000A := by decide +kernel

theorem test_rsgen_operand : gives (exec (.rsgen 32) tables) fun t => flags t == (0x000C, 0x1206, 0x0004) && t.genlen.toNat == 0 := by
  decide +kernel

theorem test_rsenc : gives (exec .rsenc (withData (withGen tables gen7) dataA)) fun t =>
    nats (leading t.ecc 7) == nats eccA && word t 0x0010 == 7 && word t 0x0005 == 0x000A := by decide +kernel

/-- T26: no data gives zeros; T21, T22: the errors. -/
theorem test_rsenc_corners :
    gives (exec .rsenc (withEcc (withGen tables gen7) eccA)) (fun t => nats (leading t.ecc 7) == [0, 0, 0, 0, 0, 0, 0] && t.eccn.toNat == 7) ∧
    gives (exec .rsenc tables) (fun t => flags t == (0x000C, 0x1305, 0x0004)) ∧
    gives (exec .rsenc { withGen tables gen7 with dcwn := 33 }) (fun t => flags t == (0x000C, 0x1306, 0x0005)) := by decide +kernel

/-! ### The bit-stream formatter (R154, T30 to T38) -/

/-- T31: BS[0..19] = 01000000000101000001. -/
theorem test_bsenc : gives (exec .bsenc (withPay blank [0x41])) fun t =>
    (leading t.bs 20).map bit == [0, 1, 0, 0, 0, 0, 0, 0, 0, 0, 0, 1, 0, 1, 0, 0, 0, 0, 0, 1] &&
      word t 0x000E == 20 && word t 0x0005 == 0x0012 := by decide +kernel

theorem test_bsenc_encoding : gives (exec .bsenc (withPay blank [0x41, 0x100, 0x42, 0x1FF])) fun t =>
    flags t == (0x0004, 0x2001, 0x0001) && t.blen.toNat == 0 := by decide +kernel

/-- T33: "HELLO" has 52 bits and 12 pad codewords. -/
theorem test_bspad : gives (exec .bspad (withBits blank ((BitVec.ofNat 52 0b0100000001010100100001000101010011000100110001001111).getMsbD
      |> fun f => (List.range 52).map f) .raw)) fun t =>
    (leading t.bs 152) == ([0x40, 0x54, 0x84, 0x54, 0xC4, 0xC4, 0xF0, 0xEC, 0x11, 0xEC, 0x11, 0xEC, 0x11, 0xEC, 0x11, 0xEC, 0x11,
      0xEC, 0x11] : List Byte).flatMap msb8 && word t 0x000E == 152 && word t 0x0005 == 0x0022 := by decide +kernel

/-- T36 and T38. -/
theorem test_bspad_errors :
    gives (exec .bspad { blank with blen := 156, bsst := .raw }) (fun t => flags t == (0x0014, 0x2102, 0x009C)) ∧
    gives (exec .bspad { blank with blen := 152, bsst := .padded }) (fun t => flags t == (0x0024, 0x2105, 0x0002)) := by
  decide +kernel

/-- R154. -/
theorem test_pad :
    pad (List.replicate 150 true) 152 = List.replicate 150 true ++ [false, false] ∧
    pad (List.replicate 152 true) 152 = List.replicate 152 true ∧
    pad (List.replicate 9 true) 152 = ([0xFF, 0x80, 0xEC, 0x11, 0xEC, 0x11, 0xEC, 0x11, 0xEC, 0x11, 0xEC, 0x11, 0xEC, 0x11, 0xEC,
      0x11, 0xEC, 0x11, 0xEC] : List Byte).flatMap msb8 := by decide +kernel

theorem test_bssplit : gives (exec .bssplit (withBits blank (dataA.flatMap msb8) .padded)) fun t =>
    nats (leading t.dcw 19) == nats dataA && word t 0x000F == 19 && word t 0x0005 == 0x0022 := by decide +kernel

theorem test_bssplit_sequence : gives (exec .bssplit { blank with bsst := .raw }) fun t => flags t == (0x0014, 0x2205, 0x0002) := by
  decide +kernel

/-! ### The matrix builder (T40 to T44, T47, T48) -/

theorem test_mxinit : gives (exec .mxinit (atStage blank 5 (placedMatrix planeT41))) fun t =>
    cells t (fun x => x.v || x.r || x.d) == 0 && word t 0x0005 == 0x0042 := by decide +kernel

theorem test_mxfind : gives (exec .mxfind (atStage blank 1 blank.mx)) fun t =>
    cells t Cell.r == 192 && cells t Cell.v == 99 && cell t 0 0 == 0b011 &&
      cell t 1 1 == 0b010 && cell t 7 7 == 0b010 && t.mxs.toNat == 2 := by decide +kernel

theorem test_mxfind_sequence : gives (exec .mxfind blank) fun t => flags t == (0x0004, 0x3105, 0x0003) := by decide +kernel

theorem test_mxtime : gives (exec .mxtime (atStage blank 2 blank.mx)) fun t =>
    cells t Cell.r == 10 && cells t Cell.v == 6 && cell t 6 8 == 0b011 &&
      cell t 9 6 == 0b010 && cell t 12 6 == 0b011 && t.mxs.toNat == 3 := by decide +kernel

theorem test_mxfrsv : gives (exec .mxfrsv (atStage blank 3 blank.mx)) fun t =>
    cells t Cell.r == 31 && cells t Cell.v == 0 && cell t 8 8 == 0b010 &&
      cell t 13 8 == 0b010 && cell t 9 8 == 0b000 && t.mxs.toNat == 4 := by
  decide +kernel

/-- T41: the picture of R180 with the codewords of "A"; stream bits 0, 1 and 24. -/
theorem test_mxplace : gives (exec .mxplace (withEcc (withData (atStage blank 4 picture) dataA) eccA)) fun t =>
    cell t 20 20 == 0b110 && cell t 20 19 == 0b111 &&
      cell t 9 18 == 0b111 && t.mxs.toNat == 5 := by decide +kernel

/-- T48. -/
theorem test_mxplace_length : gives (exec .mxplace { atStage blank 4 picture with dcwn := 63 }) fun t =>
    flags t == (0x0104, 0x3403, 0x01F8) && plane Cell.v t.mx == plane Cell.v picture := by decide +kernel

/-- T42: the planes of T41 become those of T42. -/
theorem test_mxmask : gives (exec .mxmask (atStage blank 5 (placedMatrix planeT41))) fun t =>
    finished t.mx planeT42 && t.mxs.toNat == 6 := by decide +kernel

/-- T43: the planes of T42 become those of T44. -/
theorem test_mxfmt : gives (exec .mxfmt (atStage blank 6 (placedMatrix planeT42))) fun t =>
    finished t.mx planeT44 && t.mxs.toNat == 7 := by decide +kernel

/-! ### ENCODE (T44, T56; the cells are those of P1) -/

theorem test_encode : gives (exec .encode (withPay tables [0x41])) fun t =>
    flags t == (0x01EA, 0, 0) && word t 0x000E == 152 && nats (leading t.dcw 19) == nats dataA &&
      nats (leading t.ecc 7) == nats eccA && cell t 20 20 == 0b111 && cell t 13 8 == 0b011 := by
  decide +kernel

theorem test_encode_errors :
    gives (exec .encode (withPay blank [0x41])) (fun t => flags t == (0x0004, 0x4005, 0x0001)) ∧
    gives (exec .encode (withPay tables (List.replicate 18 0x30))) (fun t =>
      flags t == (0x001C, 0x2102, 0x009C) && t.blen.toNat == 156 && t.dcwn.toNat == 0 && t.mxs.toNat == 0) := by decide +kernel

/-! ### Witnesses: for each statement with hypotheses, states and operands that meet all of them together, each clause at the
boundary values of its ranges -/

/-- The next state an outcome holds. -/
def result (o : Host.Outcome State Fault Refusal) : State :=
  match o with
  | .next t => t
  | .fault _ | .refused _ => blank

theorem exec_result (i : Instr) (s : State) : exec i s = .next (result (exec i s)) := by
  obtain ⟨t, h⟩ : ∃ t, exec i s = .next t := by rw [exec_eq_runCommand]; exact runCommand_next _ _ _
  rw [h]; rfl

theorem cellAt_planes (v r d : Nat → Nat → Bool) {i j : Nat} (hi : i < 21) (hj : j < 21) :
    Spec.cellAt (planes v r d) i j = ⟨v i j, r i j, d i j⟩ := by
  have hr : cellIndex i j / 21 = i := cellIndex_row hj
  have hc : cellIndex i j % 21 = j := cellIndex_column hj
  rw [Spec.cellAt, planes, entry_tabulate _ _ (cellIndex_lt hi hj), hr, hc]

theorem tables_built : Spec.TablesBuilt tables.exp tables.log := by
  have he : tables.exp.toList = Spec.expTable ++ Spec.expTable ++ [0x5A, 0xC3] := rfl
  have hl : tables.log.toList = 0x77 :: Spec.logTable.tail := rfl
  have hn : Spec.expTable.length = 255 := by decide +kernel
  refine ⟨fun k hk => ?_, fun k h1 h2 => ?_, fun a h1 h2 => ?_⟩
  · rw [entry, he, List.append_assoc, List.getD_append _ _ _ _ (by omega)]; rfl
  · rw [entry, entry, he, List.getD_append _ _ _ _ (by simp [hn]; omega), List.getD_append_right _ _ _ _ (by omega),
      List.append_assoc, List.getD_append _ _ _ _ (by omega), hn]
  · obtain ⟨b, rfl⟩ : ∃ b, a = b + 1 := ⟨a - 1, by omega⟩
    rw [entry, hl]; rfl

/-- The end state of P1: "A" encoded; its next transaction is a BSENC. -/
def encodedA : State :=
  { withEcc (withGen (withData (withBits (withPay tables [0x41]) (dataA.flatMap msb8) .padded) dataA) gen7) eccA with
    mxs := 7, mx := placedMatrix planeT44, done := true, script := [.write 0x0006 0x2000] }

theorem witness_PendingErrorIgnoresEveryOtherWord :
    (failing blank).err = true ∧ (0x7E01 : Word) ≠ 0x7E00 ∧ (0x000D : Word) ≠ 0x0006 ∧ Instr.rsenc ≠ .clrerr ∧
    (let s := { failing blank with script := [.write 0x0006 0x1300] }; s.err = true ∧ s.script = .write 0x0006 0x1300 :: [] ∧
      (0x1300 : Word) ≠ 0x7E00) := by decide

theorem witness_IllegalWordRaisesIllegal :
    blank.err = false ∧ (∃ e, decode 0x0001 = .error e) ∧ (∃ e, decode 0x11FF = .error e) ∧ (∃ e, decode 0xFFFF = .error e) :=
  ⟨rfl, ⟨_, rfl⟩, ⟨_, rfl⟩, ⟨_, rfl⟩⟩

theorem witness_NopSetsDoneOnly : blank.err = false ∧ (failing blank).err = true := by decide

theorem witness_ClrerrClearsTheError : ∃ t, exec .clrerr (failing blank) = .next t := ⟨_, exec_result _ _⟩

theorem witness_FailingCommandChangesErrorFieldsOnly :
    Instr.mxfind ≠ .encode ∧ blank.err = false ∧ exec .mxfind blank = .next (result (exec .mxfind blank)) ∧
      (result (exec .mxfind blank)).err = true := ⟨by decide, rfl, exec_result _ _, by decide +kernel⟩

theorem witness_StepRunsTheDecodedCommand :
    (encodedA.script = .write 0x0006 0x2000 :: [] ∧ decode 0x2000 = .ok .bsenc ∧ decodeTableWord 16 0x2000 = some .bsenc) ∧
    (let s := { blank with script := [.write 0x0006 0x0001] }; s.script = .write 0x0006 0x0001 :: [] ∧ s.err = false ∧
      ∃ e, decode 0x0001 = .error e) := ⟨by decide, rfl, rfl, _, rfl⟩

theorem witness_EveryStepHasANextState : blank.script = [] := rfl

theorem witness_HostReadChangesNothing : ({ blank with script := [.read 0x1803] } : State).script = .read 0x1803 :: [] := rfl

theorem witness_HostWriteChangesOneLocation :
    (0x0005 : Word) ≠ 0x0006 ∧ (0x0007 : Word) ≠ 0x0006 ∧
    ({ blank with script := [.write 0x0005 0x0002] } : State).script = .write 0x0005 0x0002 :: [] ∧
    Spec.writableWidth 0x0004 = some 2 ∧ Spec.writableWidth 0x0009 = some 16 ∧ Spec.writableWidth 0x000B = some 8 ∧
    Spec.writableWidth 0x0013 = some 6 ∧ Spec.writableWidth 0x0500 = some 9 ∧ Spec.writableWidth 0x05FF = some 9 ∧
    Spec.writableWidth 0x061F = some 8 ∧ Spec.writableWidth 0x06BF = some 8 ∧
    Spec.writableWidth 0x04FF = none ∧ Spec.writableWidth 0x0620 = none ∧ Spec.writableWidth 0x0660 = none ∧
    Spec.writableWidth 0x06C0 = none ∧ Spec.writableWidth 0xFFFF = none := by decide

theorem witness_AddressMapReads :
    Spec.unmapped 0x0015 = true ∧ Spec.unmapped 0x01FF = true ∧ Spec.unmapped 0x0660 = true ∧ Spec.unmapped 0x09B9 = true ∧
    Spec.unmapped 0x1804 = true ∧ Spec.unmapped 0xFFFF = true ∧
    Spec.unmapped 0x0014 = false ∧ Spec.unmapped 0x0200 = false ∧ Spec.unmapped 0x065F = false ∧ Spec.unmapped 0x09B8 = false ∧
    Spec.unmapped 0x1803 = false := by decide

/-- Each code's state, the stream's and the error's. -/
theorem witness_StatusFieldsAsRead :
    blank.bsst = .empty ∧ ({ blank with bsst := .raw } : State).bsst = .raw ∧ encodedA.bsst = .padded ∧ blank.cause = .none ∧
    (failing blank).cause = .sequence ∧
    (∀ c ∈ [Cause.encoding, .capacity, .length, .illegal, .operand], ({ failing blank with cause := c } : State).cause = c) :=
  ⟨rfl, rfl, rfl, rfl, rfl, fun _ _ => rfl⟩

theorem witness_ResetGivesTheResetValues :
    ({ tables with script := [.reset, .read 0x0005] } : State).script = .reset :: [.read 0x0005] ∧
    (0x0004 ≤ (0x0014 : Word).toNat ∧ (0x0014 : Word).toNat ≤ 0x0014 ∧ (0x0014 : Word).toNat ≠ 0x0009) := by decide

theorem witness_GfbuildBuildsTheTables : blank.err = false ∧ tables.err = false := by decide

theorem witness_GfbuildTablesArePrinted :
    blank.err = false ∧ exec .gfbuild blank = .next (result (exec .gfbuild blank)) ∧ Spec.TablesBuilt tables.exp tables.log ∧
      (0x8E : Byte) ≠ 0 := ⟨rfl, exec_result _ _, tables_built, by decide⟩

theorem witness_GfmulMultiplies :
    tables.err = false ∧ tables.gfv = true ∧ blank.err = false ∧ blank.gfv = false ∧
    (∃ t, Spec.TablesBuilt tables.exp tables.log ∧ exec .gfmul { tables with gfa := 0x8E, gfb := 0x8E } = .next t) :=
  ⟨rfl, rfl, rfl, rfl, _, tables_built, exec_result _ _⟩

theorem witness_TablesBuilt_of_GfMulIsTheFieldProduct_and_GfMulLaws :
    Spec.TablesBuilt tables.exp tables.log ∧ (0xFF : Byte) ≠ 0 ∧ (0x01 : Byte) ≠ 0 := ⟨tables_built, by decide, by decide⟩

theorem witness_TablesAreReadOnlyOnceBuilt :
    (∃ t, perform (.write 0x0006 0x0200) tables = .next t ∧ Transaction.write 0x0006 0x0200 ≠ .reset ∧ tables.gfv = true ∧
      Transaction.write 0x0006 0x0200 ≠ .write 0x0006 0x0100) ∧
    (∃ t, Spec.TablesBuilt tables.exp tables.log ∧ exec .gfbuild tables = .next t) :=
  ⟨⟨_, exec_result .gfmul tables, by decide, rfl, by decide⟩, _, tables_built, exec_result _ _⟩

/-- The lengths a host can write: 1, 32, 0 and 33. -/
theorem witness_PmulConvolves_and_PdivDivides :
    tables.err = false ∧ tables.gfv = true ∧ blank.err = false ∧ blank.gfv = false ∧
    (1 ≤ (1 : BitVec 6).toNat ∧ (1 : BitVec 6).toNat ≤ 32) ∧ (1 ≤ (32 : BitVec 6).toNat ∧ (32 : BitVec 6).toNat ≤ 32) ∧
    (0 : BitVec 6).toNat = 0 ∧ 32 < (33 : BitVec 6).toNat ∧
    (let s := { tables with palen := 32, pblen := 1 }; 1 ≤ s.palen.toNat ∧ s.palen.toNat ≤ 32 ∧ 1 ≤ s.pblen.toNat ∧
      s.pblen.toNat ≤ s.palen.toNat) ∧
    (let s := { tables with palen := 31, pblen := 32 }; 1 ≤ s.palen.toNat ∧ s.palen.toNat < s.pblen.toNat ∧ s.pblen.toNat ≤ 32) ∧
    (let s := { tables with palen := 1, pblen := 33 }; 1 ≤ s.palen.toNat ∧ s.palen.toNat ≤ 32 ∧ 32 < s.pblen.toNat) := by decide

theorem witness_RsgenBuildsTheGenerator :
    tables.err = false ∧ tables.gfv = true ∧ blank.gfv = false ∧ (0 : Nat) ≤ 31 ∧ (31 : Nat) ≤ 31 ∧ 32 ≤ (32 : Nat) ∧
    32 ≤ (255 : Nat) := by decide

theorem witness_GeneratorRowsArePrinted_and_GeneratorIsMonicWithNonzeroTail :
    Spec.TablesBuilt tables.exp tables.log ∧ (10 : Nat) ≤ 10 ∧ (255 : Nat) ≤ 255 := ⟨tables_built, by decide, by decide⟩

theorem witness_RsencEncodes :
    (let s := { tables with genlen := 1, dcwn := 0 }; s.err = false ∧ s.gfv = true ∧ 1 ≤ s.genlen.toNat ∧ s.genlen.toNat ≤ 32 ∧
      s.dcwn.toNat ≤ 32) ∧
    (let s := { tables with genlen := 32, dcwn := 32 }; 1 ≤ s.genlen.toNat ∧ s.genlen.toNat ≤ 32 ∧ s.dcwn.toNat ≤ 32) ∧
    (blank.err = false ∧ blank.gfv = false) ∧ tables.genlen.toNat = 0 ∧
    (let s := { tables with genlen := 1, dcwn := 33 }; 1 ≤ s.genlen.toNat ∧ 32 < s.dcwn.toNat) := by decide

theorem witness_DataWithEccIsDivisible : 1 ≤ gen7.length ∧ 1 ≤ ([0x01] : List Byte).length := by decide

theorem witness_SingleBitChangesTheEcc :
    Spec.TablesBuilt tables.exp tables.log ∧ 1 ≤ 1 ∧ 1 ≤ 31 ∧ 31 ≤ 31 ∧ 18 < dataA.length ∧ 0 < dataA.length ∧ 7 < 8 :=
  ⟨tables_built, by decide⟩

theorem witness_BsencBuildsTheStream :
    blank.err = false ∧
    (∀ i, i < (withPay blank [0x41, 0xFF]).plen.toNat → (entry (withPay blank [0x41, 0xFF]).pay i).toNat ≤ 255) ∧
    (∀ i, i < blank.plen.toNat → (entry blank.pay i).toNat ≤ 255) ∧
    (let s := withPay blank [0x41, 0x100]; 1 < s.plen.toNat ∧ 255 < (entry s.pay 1).toNat ∧
      ∀ j, j < 1 → (entry s.pay j).toNat ≤ 255) := by decide +kernel

theorem witness_PadFillsTheCapacity :
    152 % 8 = 0 ∧ ([] : List Bool).length ≤ 152 ∧ (List.replicate 152 true).length ≤ 152 := by simp

theorem witness_BspadPadsTheStream :
    (let s := { blank with bsst := .raw, blen := 152 }; s.err = false ∧ s.bsst = .raw ∧ s.blen.toNat ≤ 152) ∧
    (let s := { blank with bsst := .raw, blen := 12 }; s.bsst = .raw ∧ s.blen.toNat ≤ 152) ∧
    (blank.err = false ∧ blank.bsst ≠ .raw) ∧
    (let s := { blank with bsst := .raw, blen := 153 }; s.bsst = .raw ∧ 152 < s.blen.toNat) := by decide

theorem witness_BssplitSplitsTheStream :
    ({ blank with bsst := .padded } : State).err = false ∧ ({ blank with bsst := .padded } : State).bsst = .padded ∧
    blank.bsst ≠ .padded := by decide

theorem witness_MatrixStages :
    blank.err = false ∧ (atStage blank 1 blank.mx).mxs = 1 ∧ (atStage blank 2 blank.mx).mxs = 2 ∧
    (atStage blank 3 blank.mx).mxs = 3 ∧ (atStage blank 4 picture).mxs = 4 ∧ (atStage blank 5 picture).mxs = 5 ∧
    (atStage blank 6 picture).mxs = 6 ∧ blank.mxs ≠ 1 ∧ blank.mxs ≠ 2 ∧ blank.mxs ≠ 3 ∧ blank.mxs ≠ 4 ∧ blank.mxs ≠ 5 ∧
    blank.mxs ≠ 6 := by decide

theorem witness_MxplaceRunsTheZigzag :
    (let s := { atStage blank 4 picture with dcwn := 19, eccn := 7 }; s.err = false ∧ s.mxs = 4 ∧
      8 * (s.dcwn.toNat + s.eccn.toNat) = 208) ∧
    (let s := { atStage blank 4 picture with dcwn := 18, eccn := 7 }; s.mxs = 4 ∧ 8 * (s.dcwn.toNat + s.eccn.toNat) ≠ 208) := by
  decide

/-- With the codewords counted 19 and 7, and with all 26 counted as data (T48). -/
theorem witness_PlacementFollowsThePrintedOrder :
    (let s := { atStage blank 4 picture with dcwn := 19, eccn := 7 }; s.err = false ∧ s.mxs = 4 ∧ s.dcwn.toNat + s.eccn.toNat = 26) ∧
    (let s := { atStage blank 4 picture with dcwn := 26, eccn := 0 }; s.err = false ∧ s.mxs = 4 ∧ s.dcwn.toNat + s.eccn.toNat = 26) ∧
    (∀ r c, r < 21 → c < 21 → (Spec.cellAt picture r c).r = (Spec.mark r c != 0)) := by
  refine ⟨by decide, by decide, fun r c hr hc => ?_⟩
  rw [picture, cellAt_planes _ _ _ hr hc]

theorem witness_MatrixStageAdvancesInOrder :
    (∃ t, exec .mxfind (atStage blank 1 blank.mx) = .next t ∧ t.err = false) ∧ (∃ t, exec .mxfind blank = .next t ∧ t.err = true) :=
  ⟨⟨_, exec_result _ _, by decide +kernel⟩, ⟨_, exec_result _ _, by decide +kernel⟩⟩

theorem witness_EncodeEqualsTheTwelveCommands : tables.err = false ∧ tables.gfv = true := by decide

/-- The largest payload, the empty one, and one byte too many; an entry out of range at index 1. -/
theorem witness_EncodeCompletes_and_EncodeFailures :
    (let s := withPay tables (List.replicate 17 0xFF); s.err = false ∧ s.gfv = true ∧ s.plen.toNat ≤ 17 ∧
      ∀ i, i < s.plen.toNat → (entry s.pay i).toNat ≤ 255) ∧
    tables.plen.toNat ≤ 17 ∧ (blank.err = false ∧ blank.gfv = false) ∧
    (let s := withPay tables [0x41, 0x100]; 1 < s.plen.toNat ∧ 255 < (entry s.pay 1).toNat ∧
      ∀ j, j < 1 → (entry s.pay j).toNat ≤ 255) ∧
    (let s := withPay tables (List.replicate 18 0x30); 18 ≤ s.plen.toNat ∧ ∀ i, i < s.plen.toNat → (entry s.pay i).toNat ≤ 255) := by
  decide +kernel

theorem witness_EncodeFixedCellsAreTheFixedPattern :
    ∃ t, tables.err = false ∧ exec .encode tables = .next t ∧ t.err = false := ⟨_, rfl, exec_result _ _, by decide +kernel⟩

theorem witness_DifferentPayloadsDifferInDataCells :
    ∃ t₁ t₂, (withPay tables [0x41]).err = false ∧ (withPay tables [0x42]).err = false ∧
      (withPay tables [0x41]).plen = (withPay tables [0x42]).plen ∧ (withPay tables [0x41]).fmt = (withPay tables [0x42]).fmt ∧
      (∃ i, i < (withPay tables [0x41]).plen.toNat ∧ entry (withPay tables [0x41]).pay i ≠ entry (withPay tables [0x42]).pay i) ∧
      exec .encode (withPay tables [0x41]) = .next t₁ ∧ exec .encode (withPay tables [0x42]) = .next t₂ ∧
      t₁.err = false ∧ t₂.err = false :=
  ⟨_, _, rfl, rfl, rfl, rfl, ⟨0, by decide +kernel⟩, exec_result _ _, exec_result _ _, by decide +kernel, by decide +kernel⟩

/-- Two states that differ in a payload entry beyond PLEN and in the data codewords. -/
theorem witness_EncodeDependsOnThePayloadOnly :
    let s₁ := withPay tables [0x41]
    let s₂ := { withData tables gen7 with pay := writeRun tables.pay 0 [0x41, 0x155], plen := 1 }
    ∃ t₁ t₂, s₁.err = false ∧ s₂.err = false ∧ s₁.gfv = true ∧ s₂.gfv = true ∧ Spec.TablesBuilt s₁.exp s₁.log ∧
      Spec.TablesBuilt s₂.exp s₂.log ∧ s₁.plen = s₂.plen ∧ (∀ i, i < s₁.plen.toNat → entry s₁.pay i = entry s₂.pay i) ∧
      s₁.fmt = s₂.fmt ∧ exec .encode s₁ = .next t₁ ∧ exec .encode s₂ = .next t₂ ∧ t₁.err = false :=
  ⟨_, _, rfl, rfl, rfl, rfl, tables_built, tables_built, rfl, by decide +kernel, rfl, exec_result _ _, exec_result _ _,
    by decide +kernel⟩

theorem witness_Frames :
    (∃ t, Instr.gfmul ∈ [Instr.nop, .clrerr, .gfbuild, .gfmul] ∧ exec .gfmul tables = .next t) ∧
    (∃ t, exec (.rsgen 7) tables = .next t) ∧
    (∃ t, Instr.bspad ∈ [Instr.bsenc, .bspad, .bssplit] ∧ exec .bspad tables = .next t) ∧
    (∃ t, Instr.mxfind ∈ [Instr.mxinit, .mxfind, .mxtime, .mxfrsv, .mxplace, .mxmask, .mxfmt] ∧ exec .mxfind tables = .next t) ∧
    (∃ t, exec .encode tables = .next t) ∧ (∃ t, exec .encode blank = .next t ∧ t.err = true) :=
  ⟨⟨_, by decide, exec_result _ _⟩, ⟨_, exec_result _ _⟩, ⟨_, by decide, exec_result _ _⟩, ⟨_, by decide, exec_result _ _⟩,
    ⟨_, exec_result _ _⟩, ⟨_, exec_result _ _, by decide +kernel⟩⟩

/-- The invariant holds of a state in which everything it speaks about is there: tables, a padded stream, a generator and a
finished matrix. -/
theorem encodedA_inv : Spec.Inv encodedA where
  error := ⟨by decide, fun _ => by decide, by decide⟩
  tables := fun _ => tables_built
  stream := by
    refine ⟨by decide, by decide, fun _ => by decide +kernel, fun _ => by decide +kernel⟩
  generator := ⟨by decide, by decide, fun _ => ⟨rfl, by decide +kernel⟩⟩
  matrix := by
    have h : ∀ r, r < 21 → ∀ c, c < 21 →
        Spec.cellFits 7 (Spec.mark r c) ⟨digit planeT44 r c, true, Spec.mark r c == 0⟩ = true := by decide +kernel
    intro _ r c hr hc
    have := h r hr c hc
    rwa [← cellAt_planes (digit planeT44) (fun _ _ => true) (fun r c => Spec.mark r c == 0) hr hc] at this

theorem witness_EveryStepKeepsTheInvariant : ∃ t, Spec.Inv encodedA ∧ step encodedA = .next t :=
  ⟨_, encodedA_inv, exec_result .bsenc (encodedA.setScript [])⟩

end Sys2Proof.Tests
end

section
/-! PROOFS. The host port: what one transaction does to every state, and the two statements about the step (R9, R81, R84, R225). -/

namespace Sys2Proof.Machine

/-! ### The step takes the next transaction (R9) -/

theorem step_nil {s : State} (h : s.script = []) : step s = .next s := by simp [step, h]

theorem step_cons {s : State} {t : Transaction} {rest : List Transaction} (h : s.script = t :: rest) :
    step s = perform t (s.setScript rest) := by simp [step, h]

/-- A step whose transaction writes to CMD executes the word (R26, R81). -/
theorem step_command {s : State} {w : Word} {rest : List Transaction} (h : s.script = .write cmdAddress w :: rest) :
    step s = execWord w (s.setScript rest) := by
  rw [step_cons h, perform, hostWrite_cmd]

/-- A loaded command word is executed in the state it was loaded into (log 4). -/
theorem step_withFetchWord (s : State) (nbits w : Nat) : step (s.withFetchWord nbits w) = execWord (tableWord nbits w) s :=
  step_command (s := s.withFetchWord nbits w) rfl

/-! ### Executing a word (R81, R84, R225) -/

theorem execWord_decoded {w : Word} {i : Instr} (h : decode w = .ok i) (s : State) : execWord w s = exec i s := by
  simp [execWord, h]

theorem execWord_rejected {w : Word} {e : DecodeReject} (h : decode w = .error e) (s : State) :
    execWord w s = execIllegal w s := by simp [execWord, h]

/-- With no error pending, ILLEGAL is entered with the word's opcode as the stage and the word in INFO (R225). -/
theorem execIllegal_raises {s : State} (w : Word) (h : s.err = false) :
    execIllegal w s = .next (Spec.failed s .illegal (opcOf w) w) := by
  rw [execIllegal, runCommand_raised (.inl h) rfl]; rfl

theorem decodeTableWord_eq_some {nbits w : Nat} {i : Instr} (h : decodeTableWord nbits w = some i) :
    decode (tableWord nbits w) = .ok i := by
  unfold decodeTableWord at h
  split at h
  next j hj => rw [hj, Option.some.inj h]
  next => contradiction

/-! ### Every transaction has a next state (R84) -/

theorem exec_next (i : Instr) (s : State) : ∃ t, exec i s = .next t := by
  rw [exec_eq_runCommand]; exact runCommand_next _ _ _

theorem execWord_next (w : Word) (s : State) : ∃ t, execWord w s = .next t := by
  cases h : decode w with
  | ok i => rw [execWord_decoded h]; exact exec_next i s
  | error e => rw [execWord_rejected h]; exact runCommand_next _ _ _

theorem perform_next (t : Transaction) (s : State) : ∃ u, perform t s = .next u := by
  cases t with
  | read a => exact ⟨_, perform_read a s⟩
  | reset => exact ⟨_, perform_reset s⟩
  | write a v =>
    by_cases h : a = cmdAddress
    · subst h; rw [perform, hostWrite_cmd]; exact execWord_next v s
    · exact ⟨_, hostWrite_other h v s⟩

theorem step_next (s : State) : ∃ t, step s = .next t := by
  cases h : s.script with
  | nil => exact ⟨s, step_nil h⟩
  | cons t rest => rw [step_cons h]; exact perform_next t _

end Sys2Proof.Machine

namespace Sys2Proof.Proofs

open Sys2Proof.Machine

/-- Settles O9: the step performs the write to CMD, and `execWord` splits on what the word decodes to. -/
theorem stepRunsTheDecodedCommand : Obligations.StepRunsTheDecodedCommand := by
  unfold Obligations.StepRunsTheDecodedCommand
  refine ⟨fun s w rest h => step_command h, fun s w i h => execWord_decoded h s, fun s w i rest h hd => ?_,
    fun s w rest h herr ⟨e, he⟩ => ?_, fun s nbits w i h => ?_⟩
  · exact (step_command h).trans (execWord_decoded hd _)
  · rw [step_command h, execWord_rejected he]
    exact execIllegal_raises w herr
  · rw [step_withFetchWord, execWord_decoded (decodeTableWord_eq_some h)]

/-- Settles O10: an idle step stays, and every kind of transaction ends in a next state. -/
theorem everyStepHasANextState : Obligations.EveryStepHasANextState :=
  ⟨step_next, fun _ => step_nil⟩

end Sys2Proof.Proofs
end

section
/-! PROOFS. The host's view of the state: the address map names each location once, and a write to a location changes what that
location reads by its access rule and nothing else (R21, R62 to R65). -/

namespace Sys2Proof.Machine

/-! ### The address map names each location once (R62) -/

/-- The host address of a location; the unmapped ones share a dummy. -/
def Location.address : Location → Nat
  | .reg r => regsInOrder.idxOf r
  | .exp k => 0x0200 + k
  | .log k => 0x0400 + k
  | .pay k => 0x0500 + k
  | .dcw k => 0x0600 + k
  | .ecc k => 0x0620 + k
  | .gen k => 0x0640 + k
  | .pa k => 0x0680 + k
  | .pb k => 0x06A0 + k
  | .pr k => 0x06C0 + k
  | .mx k => 0x0800 + k
  | .bs k => 0x1000 + k
  | .unmapped => 0

theorem idxOf_regsInOrder : ∀ n, n ≤ 0x0014 → regsInOrder.idxOf (regsInOrder.getD n .id) = n := by decide

theorem address_locate {a : Word} (h : locate a ≠ .unmapped) : (locate a).address = a.toNat := by
  revert h
  fun_cases locate a <;> intro h
  case case1 n hn => exact idxOf_regsInOrder n hn
  case case13 => exact absurd rfl h
  all_goals simp only [Location.address]; omega

/-- Two addresses of one mapped location are the same address. -/
theorem locate_inj {a b : Word} (h : locate a = locate b) (ha : locate a ≠ .unmapped) : a = b :=
  BitVec.eq_of_toNat_eq (by rw [← address_locate ha, h, address_locate (h ▸ ha)])

/-! ### What a write changes (R64, R65) -/

/-- The width of a register the host may write and read back (R21); STATUS and CMD have none. -/
def Reg.writableWidth : Reg → Option Nat
  | .ctrl => some 2
  | .fmt => some 16
  | .gfa | .gfb | .plen => some 8
  | .dcwn | .palen | .pblen => some 6
  | .id | .rev | .cfg0 | .cfg1 | .status | .cmd | .err | .info | .gfr | .blen | .eccn | .genlen | .prlen => none

/-- The width of a location the host may write and read back (R21, R62). -/
def Location.writableWidth : Location → Option Nat
  | .reg r => r.writableWidth
  | .pay _ => some 9
  | .dcw _ | .pa _ | .pb _ => some 8
  | .exp _ | .log _ | .ecc _ | .gen _ | .pr _ | .mx _ | .bs _ | .unmapped => none

theorem writableWidth_regsInOrder :
    ∀ n, n ≤ 0x0014 → Spec.writableWidth n = (regsInOrder.getD n .id).writableWidth := by decide

/-- The statements' table of writable addresses is the address map's. -/
theorem writableWidth_locate (a : Word) : Spec.writableWidth a.toNat = (locate a).writableWidth := by
  fun_cases locate a
  case case1 n hn => exact writableWidth_regsInOrder n hn
  all_goals
    simp only [Location.writableWidth, Spec.writableWidth]
    grind

theorem readReg_writeReg_of_ne (s : State) (v : Word) {r q : Reg} (h : q ≠ r) : readReg (writeReg s v r) q = readReg s q := by
  cases r <;> cases q <;> first | rfl | exact absurd rfl h

/-- A write changes what no other location reads. -/
theorem readLocation_writeLocation_of_ne (s : State) (v : Word) {l m : Location} (h : m ≠ l) :
    readLocation (writeLocation s v l) m = readLocation s m := by
  cases l with
  | reg r =>
    cases m with
    | reg q => exact readReg_writeReg_of_ne s v fun e => h (congrArg _ e)
    | _ => cases r <;> rfl
  | pay k | dcw k | pa k | pb k =>
    cases m
    case reg q => cases q <;> rfl
    case pay j | dcw j | pa j | pb j =>
      simp_all [readLocation, writeLocation, Vector.getElem_set_ne, Fin.ext_iff, Ne.symm]
    all_goals rfl
  | _ => rfl

theorem toNat_setWidth_word (v : Word) {n : Nat} (hn : n ≤ 16) : ((v.setWidth n).setWidth 16).toNat = v.toNat % 2 ^ n := by
  rw [BitVec.toNat_setWidth_of_le hn, BitVec.toNat_setWidth]

theorem bit_getLsbD (v : Word) (i : Nat) : bit (v.getLsbD i) = v.toNat / 2 ^ i % 2 := by
  rw [← Nat.toNat_testBit]; cases h : v.getLsbD i <;> simp [bit, BitVec.testBit_toNat, h]

/-- CTRL holds the low two bits of what is written to it (R24). -/
theorem toNat_ctrlWord_writeReg (s : State) (v : Word) : (ctrlWord (writeReg s v .ctrl)).toNat = v.toNat % 2 ^ 2 := by
  simp only [ctrlWord, writeReg, bit_getLsbD, BitVec.toNat_ofNat]
  omega

/-- A register the host may write reads the low bits of its width afterwards. -/
theorem readReg_writeReg_self (s : State) (v : Word) {r : Reg} {n : Nat} (h : r.writableWidth = some n) :
    (readReg (writeReg s v r) r).toNat = v.toNat % 2 ^ n := by
  cases r
  case ctrl => cases h; exact toNat_ctrlWord_writeReg s v
  case fmt => cases h; exact (Nat.mod_eq_of_lt v.isLt).symm
  case gfa | gfb | plen | dcwn | palen | pblen => cases h; exact toNat_setWidth_word v (by decide)
  all_goals cases h

/-- A location the host may write reads the low bits of its width afterwards. -/
theorem readLocation_writeLocation_self (s : State) (v : Word) {l : Location} {n : Nat} (h : l.writableWidth = some n) :
    (readLocation (writeLocation s v l) l).toNat = v.toNat % 2 ^ n := by
  cases l with
  | reg r => exact readReg_writeReg_self s v h
  | pay k | dcw k | pa k | pb k =>
    cases h
    simp only [readLocation, writeLocation, Fin.getElem_fin, Vector.getElem_set_self]
    exact toNat_setWidth_word v (by decide)
  | _ => cases h

/-- A write to a location that takes no data, STATUS apart, is ignored. -/
theorem writeLocation_ignored (s : State) (v : Word) {l : Location} (h : l.writableWidth = none) (hs : l ≠ .reg .status) :
    writeLocation s v l = s := by
  cases l with
  | reg r => cases r <;> first | rfl | exact absurd rfl hs | cases h
  | pay | dcw | pa | pb => cases h
  | _ => rfl

/-! ### STATUS (R25) -/

/-- Bit 1 of a word of fields is the field at bit 1, and the other bits do not depend on that field. -/
theorem testBit_bit_one (d : Bool) (n i : Nat) : (2 * bit d + 4 * n).testBit i = if i = 1 then d else (4 * n).testBit i := by
  match i with
  | 0 => simp
  | 1 => cases d <;> simp [bit, Nat.testBit_add_one] <;> omega
  | i + 2 =>
    have h : (2 * bit d + 4 * n) / 2 / 2 = 4 * n / 2 / 2 := by unfold bit; split <;> omega
    simp [Nat.testBit_add_one, h]

/-- Masking bit 1 of a word of fields clears the field at bit 1. -/
theorem ofNat_and_not_two (c : Bool) (n : Nat) :
    BitVec.ofNat 16 (2 * bit c + 4 * n) &&& ~~~(2 : Word) = BitVec.ofNat 16 (2 * bit false + 4 * n) := by
  have two : (2 : Word) = BitVec.twoPow 16 1 := rfl
  refine BitVec.eq_of_getLsbD_eq fun i hi => ?_
  simp only [BitVec.getLsbD_and, BitVec.getLsbD_not, BitVec.getLsbD_ofNat, testBit_bit_one, two, BitVec.getLsbD_twoPow]
  by_cases h : i = 1
  · simp [h]
  · simp [h, hi, Ne.symm h]

theorem and_two (v : Word) : v &&& 0x0002 = if v.getLsbD 1 then 2 else 0 := BitVec.and_twoPow v 1

/-- A write to STATUS clears the bit of DONE that is 1 in the value, and no other bit (R25). -/
theorem statusWord_writeReg (s : State) (v : Word) :
    statusWord (writeReg s v .status) = statusWord s &&& ~~~(v &&& 0x0002) := by
  have h : ∀ t : State, statusWord t =
      BitVec.ofNat 16 (2 * bit t.done + 4 * (bit t.err + 2 * bit t.gfv + 4 * t.bsst.code + 16 * t.mxs.toNat)) := fun t => by
    unfold statusWord; congr 1; omega
  rw [h, h, and_two]
  simp only [writeReg]
  cases v.getLsbD 1 with
  | false => rw [Bool.not_false, Bool.and_true]; exact BitVec.and_allOnes.symm
  | true => rw [Bool.not_true, Bool.and_false]; exact (ofNat_and_not_two _ _).symm

end Sys2Proof.Machine

namespace Sys2Proof.Proofs

open Sys2Proof.Machine

/-- Settles O12: by the location the address names; only the written location can read otherwise, since the address map names no
mapped location twice. -/
theorem hostWriteChangesOneLocation : Obligations.HostWriteChangesOneLocation := by
  unfold Obligations.HostWriteChangesOneLocation
  intro s a v ha
  refine ⟨hostWrite_other ha v s, fun rest h => ?_, memWrite_script s a v, fun b hb => ?_, fun n hn => ?_, ?_, fun hn h5 => ?_⟩
  · rw [step_cons h]; exact hostWrite_other ha v _
  · by_cases hl : locate b = locate a
    · have hu : locate b = .unmapped := by_contra fun hm => hb (locate_inj hl hm)
      rw [memRead, memRead, hu]; rfl
    · exact readLocation_writeLocation_of_ne s v hl
  · exact readLocation_writeLocation_self s v (writableWidth_locate a ▸ hn)
  · rintro rfl
    exact ⟨statusWord_writeReg s v, rfl⟩
  · refine writeLocation_ignored s v (writableWidth_locate a ▸ hn) fun hl => h5 ?_
    exact locate_inj (b := 0x0005) hl (by simp [hl])

end Sys2Proof.Proofs
end

section
/-! PROOFS. ENCODE as a function of its inputs (R8, R202): what its three phases leave, what the whole raises or leaves, and that two
built pairs of tables give the same products and generator. -/

namespace Sys2Proof.Machine

/-! ### Files: a run written behind what is kept -/

/-- After a run of writes the file begins with what stood before the run, then the run. -/
theorem leading_writeRun {α : Type} [Inhabited α] {n : Nat} (x : Vector α n) (base : Nat) (vs : List α)
    (h : base + vs.length ≤ n) : leading (writeRun x base vs) (base + vs.length) = leading x base ++ vs := by
  apply List.ext_getElem
  · simp; omega
  · intro k h1 h2
    have hk : k < base + vs.length := by simp at h1; omega
    rw [getElem_leading]
    by_cases hb : base ≤ k
    · rw [entry_writeRun_inside _ _ _ _ (by omega) hb (by omega), List.getElem_append_right (by simp; omega)]
      congr 1; simp; omega
    · rw [entry_writeRun_outside _ _ _ _ (by omega), List.getElem_append_left (by simp; omega), getElem_leading]

/-- A file begins with a run written from index 0. -/
theorem leading_writeRun_zero {α : Type} [Inhabited α] {n : Nat} (x : Vector α n) {vs : List α} {len : Nat}
    (hl : vs.length = len) (h : len ≤ n) : leading (writeRun x 0 vs) len = vs := by
  have := leading_writeRun x 0 vs (by omega)
  simpa [hl, leading] using this

/-! ### The padding (R152) -/

/-- Padding appends. -/
theorem isPrefix_pad (b : List Bool) (total : Nat) : b <+: pad b total := by
  simp [pad]

/-- A stream that fits is padded to the capacity. -/
theorem length_pad {b : List Bool} {total : Nat} (ht : total % 8 = 0) (h : b.length ≤ total) : (pad b total).length = total := by
  simp only [pad, List.length_append, List.length_replicate, length_padCodewords]
  omega

theorem append_drop_pad (b : List Bool) (total : Nat) : b ++ (pad b total).drop b.length = pad b total := by
  obtain ⟨t, ht⟩ := isPrefix_pad b total
  rw [← ht, List.drop_left]

/-! ### What ENCODE reads, and what it makes of it -/

/-- All that ENCODE reads: PLEN, the payload below it, FMT, and of the tables the multiplication and the generator (R202). -/
structure EncodeInput where
  plen : BitVec 8
  payload : List (BitVec 9)
  fmt : Word
  mul : Byte → Byte → Byte
  generator : List Byte

/-- What ENCODE reads of a state. -/
def encodeInput (s : State) : EncodeInput where
  plen := s.plen
  payload := payOperand s
  fmt := s.fmt
  mul := gfMul s.exp s.log
  generator := genpoly s.exp (gfMul s.exp s.log) Config.nsym

theorem encodeInput_generator (s : State) :
    (encodeInput s).generator = genpoly s.exp (gfMul s.exp s.log) Config.nsym := by
  have generator_mk : ∀ p l f m g, (EncodeInput.mk p l f m g).generator = g := fun _ _ _ _ _ => rfl
  rw [encodeInput, generator_mk]

/-- The matrix after stage 4 (R180). -/
def framedMatrix : Vector Cell 441 :=
  mapCells reserveCell (mapCells timeCell (mapCells findCell (tabulate 441 fun _ => ⟨false, false, false⟩)))

namespace EncodeInput

variable (x : EncodeInput)

/-- The raw stream (R151). -/
def raw : List Bool := rawBits x.plen x.payload

/-- The padded stream (R153). -/
def padded : List Bool := pad x.raw Config.totalBits

/-- The data codewords (R155). -/
def data : List Byte := splitCodewords x.padded Config.ndata

/-- The ECC codewords (R128). -/
def ecc : List Byte := rsRemainder x.mul x.data x.generator

/-- The finished matrix (R175 to R177). -/
def matrix : Vector Cell 441 :=
  mapCells (formatCell x.fmt) (mapCells maskCell (placeBits ((x.data ++ x.ecc).flatMap msb8) framedMatrix))

/-- The error ENCODE raises with the tables built (R202): ENCODING from BSENC, then CAPACITY from BSPAD. -/
def failure : Option Raise :=
  match firstUnrepresentable x.payload with
  | some i => some (Raise.ofEncoding .bsenc i)
  | none => if x.raw.length ≤ Config.totalBits then none else some (Raise.ofCapacity .bspad x.raw.length)

end EncodeInput

/-! ### The bit-stream phase -/

/-- The state after BSENC's writes (R151). -/
def withRaw (s : State) : State := s.setBits 0 (encodeInput s).raw (encodeInput s).raw.length .raw

/-- The state after BSPAD's writes (R153). -/
def withPadded (s : State) : State :=
  (withRaw s).setBits (encodeInput s).raw.length ((encodeInput s).padded.drop (encodeInput s).raw.length) Config.totalBits .padded

theorem length_raw (s : State) : (encodeInput s).raw.length = 12 + 8 * s.plen.toNat := by
  rw [EncodeInput.raw, length_rawBits]; exact congrArg (12 + 8 * ·) (length_payOperand s)

theorem withRaw_blen (s : State) : (withRaw s).blen.toNat = (encodeInput s).raw.length := by
  have h := length_raw s
  have := s.plen.isLt
  simp [withRaw]; omega

theorem bitOperand_withRaw (s : State) : bitOperand (withRaw s) = (encodeInput s).raw := by
  have := length_raw s
  have := s.plen.isLt
  rw [bitOperand, withRaw_blen]
  exact leading_writeRun_zero _ rfl (by omega)

theorem leading_withPadded {s : State} (h : (encodeInput s).raw.length ≤ Config.totalBits) :
    leading (withPadded s).bs Config.totalBits = (encodeInput s).padded := by
  have hp : (encodeInput s).padded.length = 152 := length_pad rfl h
  have hl : (encodeInput s).raw.length + ((encodeInput s).padded.drop (encodeInput s).raw.length).length = 152 := by
    rw [List.length_drop, hp]; exact Nat.add_sub_cancel' h
  have run := leading_writeRun (withRaw s).bs (encodeInput s).raw.length
    ((encodeInput s).padded.drop (encodeInput s).raw.length) (by omega)
  have kept : leading (withRaw s).bs (encodeInput s).raw.length = (encodeInput s).raw := by
    rw [← withRaw_blen]; exact bitOperand_withRaw s
  rw [hl, kept] at run
  exact run.trans (append_drop_pad _ _)

theorem bodyBsenc_raised {s : State} {i : Nat} (h : firstUnrepresentable (payOperand s) = some i) :
    bodyBsenc s = .raised (Raise.ofEncoding .bsenc i) s := by simp [bodyBsenc, h]

theorem bodyBsenc_done {s : State} (h : firstUnrepresentable (payOperand s) = none) : bodyBsenc s = .done (withRaw s) := by
  simp only [bodyBsenc, h, withRaw, length_raw]; rfl

theorem bodyBspad_raised {s : State} (h : ¬ (encodeInput s).raw.length ≤ Config.totalBits) :
    bodyBspad (withRaw s) = .raised (Raise.ofCapacity .bspad (encodeInput s).raw.length) (withRaw s) := by
  rw [bodyBspad, show (withRaw s).bsst = .raw from rfl, withRaw_blen, decide_eq_false h]; rfl

theorem bodyBspad_done {s : State} (h : (encodeInput s).raw.length ≤ Config.totalBits) :
    bodyBspad (withRaw s) = .done (withPadded s) := by
  rw [bodyBspad, show (withRaw s).bsst = .raw from rfl, withRaw_blen, bitOperand_withRaw, decide_eq_true h]; rfl

theorem bodyBssplit_done {s : State} (h : (encodeInput s).raw.length ≤ Config.totalBits) :
    bodyBssplit (withPadded s) = .done ((withPadded s).setData (encodeInput s).data Config.ndata) := by
  rw [bodyBssplit, leading_withPadded h]; rfl

/-! ### The Reed-Solomon phase -/

theorem dataOperand_setData (s : State) {d : List Byte} {len : Nat} (hd : d.length = len) (h : len ≤ 32) :
    dataOperand (s.setData d len) = d := by
  have hl : (s.setData d len).dcwn.toNat = len := by simp; omega
  rw [dataOperand, hl]
  exact leading_writeRun_zero _ hd h

theorem genOperand_setGenerator (s : State) {g : List Byte} {len : Nat} (hg : g.length = len) (h : len ≤ 32) :
    genOperand (s.setGenerator g len) = g := by
  have hl : (s.setGenerator g len).genlen.toNat = len := by simp; omega
  rw [genOperand, hl]
  exact leading_writeRun_zero _ hg h

theorem eccOperand_setEcc (s : State) {c : List Byte} {len : Nat} (hc : c.length = len) (h : len ≤ 32) :
    eccOperand (s.setEcc c len) = c := by
  have hl : (s.setEcc c len).eccn.toNat = len := by simp; omega
  rw [eccOperand, hl]
  exact leading_writeRun_zero _ hc h

theorem length_data (x : EncodeInput) : x.data.length = 19 := length_splitCodewords _ _

theorem length_generator (s : State) : (encodeInput s).generator.length = 8 := by
  rw [encodeInput_generator, length_genpoly]; rfl

theorem length_ecc (s : State) : (encodeInput s).ecc.length = 7 := by
  have hg := length_generator s
  rw [EncodeInput.ecc, length_rsRemainder _ _ _ (by omega), hg]

theorem bodyRsgen_done {s : State} (h : s.gfv = true) :
    bodyRsgen Config.nsym s = .done (s.setGenerator (genpoly s.exp (gfMul s.exp s.log) Config.nsym) 8) := by
  have fits : decide (Config.nsym ≤ Config.polyMax - 1) = true := by decide
  rw [bodyRsgen, h, fits, require_true, require_true, Config.nsym]

/-- RSENC right after BSSPLIT and RSGEN (R128). -/
theorem bodyRsenc_done {s : State} {d g : List Byte} (hs : s.gfv = true) (hd : d.length = 19) (hg : g.length = 8) :
    bodyRsenc ((s.setData d 19).setGenerator g 8) =
      .done (((s.setData d 19).setGenerator g 8).setEcc (rsRemainder (gfMul s.exp s.log) d g) 7) := by
  have data : dataOperand ((s.setData d 19).setGenerator g 8) = d := dataOperand_setData s hd (by decide)
  rw [bodyRsenc, data, genOperand_setGenerator _ hg (by decide), State.setGenerator_gfv, State.setData_gfv, hs]
  rfl

/-! ### The matrix phase -/

theorem mapCells_const (c : Cell) (mx : Vector Cell 441) : mapCells (fun _ _ _ => c) mx = tabulate 441 fun _ => c :=
  file_ext fun k hk => by rw [mapCells, entry_mapEntries _ _ _ hk, entry_tabulate _ _ hk]

/-- The seven matrix stages, whatever the matrix and the stage before (R171 to R177). -/
theorem runStages_matrix {s : State} (h : streamLength s = Config.cwBits) :
    runStages [bodyMxinit, bodyMxfind, bodyMxtime, bodyMxfrsv, bodyMxplace, bodyMxmask, bodyMxfmt] s =
      .done (s.setMatrix (mapCells (formatCell s.fmt) (mapCells maskCell (placeBits (cwbits s) framedMatrix))) 7) := by
  have place : bodyMxplace (s.setMatrix framedMatrix 4) = .done (s.setMatrix (placeBits (cwbits s) framedMatrix) 5) := by
    rw [bodyMxplace, show streamLength (s.setMatrix framedMatrix 4) = _ from h]; rfl
  have cleared : bodyMxinit s = .done (s.setMatrix (tabulate 441 fun _ => ⟨false, false, false⟩) 1) := by
    rw [bodyMxinit, mapCells_const]
  have find : ∀ mx, bodyMxfind (s.setMatrix mx 1) = .done (s.setMatrix (mapCells findCell mx) 2) := fun _ => rfl
  have time : ∀ mx, bodyMxtime (s.setMatrix mx 2) = .done (s.setMatrix (mapCells timeCell mx) 3) := fun _ => rfl
  have reserve : ∀ mx, bodyMxfrsv (s.setMatrix mx 3) = .done (s.setMatrix (mapCells reserveCell mx) 4) := fun _ => rfl
  have mask : ∀ mx, bodyMxmask (s.setMatrix mx 5) = .done (s.setMatrix (mapCells maskCell mx) 6) := fun _ => rfl
  have format : ∀ mx, bodyMxfmt (s.setMatrix mx 6) = .done (s.setMatrix (mapCells (formatCell s.fmt) mx) 7) := fun _ => rfl
  rw [runStages_done cleared, runStages_done (find _), runStages_done (time _), runStages_done (reserve _), ← framedMatrix,
    runStages_done place, runStages_done (mask _), runStages_done (format _), runStages_nil]

/-! ### The whole of ENCODE (R202) -/

/-- The state after the codewords are there. -/
def withCodewords (s : State) : State :=
  (((withPadded s).setData (encodeInput s).data 19).setGenerator (encodeInput s).generator 8).setEcc (encodeInput s).ecc 7

/-- The state a completed ENCODE leaves, but for DONE. -/
def encoded (s : State) : State := (withCodewords s).setMatrix (encodeInput s).matrix 7

theorem cwbits_withCodewords (s : State) :
    cwbits (withCodewords s) = ((encodeInput s).data ++ (encodeInput s).ecc).flatMap msb8 := by
  have data : dataOperand (withCodewords s) = (encodeInput s).data := dataOperand_setData _ (length_data _) (by decide)
  rw [cwbits, data, withCodewords, eccOperand_setEcc _ (length_ecc s) (by decide)]

theorem runStages_encode {s : State} (hg : s.gfv = true) (hp : firstUnrepresentable (payOperand s) = none)
    (hl : (encodeInput s).raw.length ≤ Config.totalBits) : runStages encodeStages s = .done (encoded s) := by
  have gen : bodyRsgen Config.nsym ((withPadded s).setData (encodeInput s).data Config.ndata) =
      .done (((withPadded s).setData (encodeInput s).data 19).setGenerator (encodeInput s).generator 8) := by
    rw [bodyRsgen_done (s := (withPadded s).setData _ _) hg, encodeInput_generator]; rfl
  have ecc : bodyRsenc (((withPadded s).setData (encodeInput s).data 19).setGenerator (encodeInput s).generator 8) =
      .done (withCodewords s) := bodyRsenc_done hg (length_data _) (length_generator s)
  rw [encodeStages, runStages_done (bodyBsenc_done hp), runStages_done (bodyBspad_done hl), runStages_done (bodyBssplit_done hl),
    runStages_done gen, runStages_done ecc]
  exact (runStages_matrix rfl).trans (by rw [cwbits_withCodewords]; rfl)

/-- ENCODE with the tables built raises the failure of its inputs. -/
theorem exec_encode_raises {s : State} {e : Raise} (herr : s.err = false) (hg : s.gfv = true)
    (h : (encodeInput s).failure = some e) : ∃ u : State, exec .encode s = .next (u.enterError e) := by
  have run : ∃ u, bodyEncode (s.setDone false) = .raised e u := by
    rw [bodyEncode, State.setDone_gfv, hg, require_true, encodeStages]
    change (encodeInput (s.setDone false)).failure = some e at h
    generalize s.setDone false = s at h
    unfold EncodeInput.failure at h
    split at h
    next i hi => exact ⟨s, Option.some.inj h ▸ runStages_raised (bodyBsenc_raised hi)⟩
    next hi =>
      split at h
      next => contradiction
      next hl => exact ⟨_, by rw [runStages_done (bodyBsenc_done hi), runStages_raised (bodyBspad_raised hl), Option.some.inj h]⟩
  obtain ⟨u, hu⟩ := run
  exact ⟨u, (exec_eq_runCommand .encode s).trans (runCommand_raised (.inl herr) hu)⟩

/-- ENCODE with the tables built completes when its inputs have no failure. -/
theorem exec_encode_completes {s : State} (herr : s.err = false) (hg : s.gfv = true) (h : (encodeInput s).failure = none) :
    (encodeInput s).raw.length ≤ Config.totalBits ∧ exec .encode s = .next ((encoded (s.setDone false)).setDone true) := by
  unfold EncodeInput.failure at h
  split at h
  next => contradiction
  next hp =>
    split at h
    next hl =>
      refine ⟨hl, (exec_eq_runCommand .encode s).trans (runCommand_done (.inl herr) ?_)⟩
      rw [bodyOf, bodyEncode, State.setDone_gfv, hg, require_true]
      exact runStages_encode (s := s.setDone false) hg hp hl
    next => contradiction

/-- What a completed ENCODE leaves in the files, from its inputs. -/
theorem encoded_files {s : State} (hl : (encodeInput s).raw.length ≤ Config.totalBits) :
    leading (encoded s).bs 152 = (encodeInput s).padded ∧ leading (encoded s).dcw 19 = (encodeInput s).data ∧
      leading (encoded s).gen 8 = (encodeInput s).generator ∧ leading (encoded s).ecc 7 = (encodeInput s).ecc ∧
      (encoded s).mx = (encodeInput s).matrix :=
  ⟨leading_withPadded hl, leading_writeRun_zero _ (length_data _) (by decide),
    leading_writeRun_zero _ (length_generator s) (by decide), leading_writeRun_zero _ (length_ecc s) (by decide), rfl⟩

/-! ### Built tables agree where they are read (R102, R106) -/

/-- No entry of the printed LOG table is 255 (R102). -/
theorem logTable_le (a : Nat) : (Spec.logTable.getD a 0).toNat ≤ 254 := by
  have all : (Spec.logTable.all fun x => decide (x.toNat ≤ 254)) = true := by decide +kernel
  by_cases ha : a < Spec.logTable.length
  · rw [List.getD_eq_getElem _ _ ha]
    exact of_decide_eq_true (List.all_eq_true.1 all _ (List.getElem_mem ha))
  · rw [List.getD_eq_default _ _ (by omega)]; decide

section

variable {e₁ e₂ : Vector Byte 512} {l₁ l₂ : Vector Byte 256}

theorem exp_of_tablesBuilt (h₁ : Spec.TablesBuilt e₁ l₁) (h₂ : Spec.TablesBuilt e₂ l₂) {k : Nat} (hk : k ≤ 509) :
    entry e₁ k = entry e₂ k := by
  obtain ⟨first₁, copy₁, -⟩ := h₁
  obtain ⟨first₂, copy₂, -⟩ := h₂
  by_cases h : k < 255
  · rw [first₁ k h, first₂ k h]
  · rw [copy₁ k (by omega) hk, copy₂ k (by omega) hk, first₁ _ (by omega), first₂ _ (by omega)]

/-- Two pairs of built tables multiply alike: a product reads LOG at 1 to 255 and EXP at 508 at most. -/
theorem gfMul_of_tablesBuilt (h₁ : Spec.TablesBuilt e₁ l₁) (h₂ : Spec.TablesBuilt e₂ l₂) : gfMul e₁ l₁ = gfMul e₂ l₂ := by
  obtain ⟨-, -, log₁⟩ := id h₁
  obtain ⟨-, -, log₂⟩ := id h₂
  funext a b
  unfold gfMul
  split
  next => rfl
  next hz =>
    have pos : ∀ c : Byte, c ≠ 0 → 1 ≤ c.toNat := fun c hc => by
      have := mt BitVec.toNat_inj.1 hc
      simp at this; omega
    have ha := pos a (mt .inl hz)
    have hb := pos b (mt .inr hz)
    have := logTable_le a.toNat
    have := logTable_le b.toNat
    rw [log₁ _ ha a.isLt, log₁ _ hb b.isLt, log₂ _ ha a.isLt, log₂ _ hb b.isLt]
    exact exp_of_tablesBuilt h₁ h₂ (by omega)

/-- Two pairs of built tables give the same generator polynomials (R125). -/
theorem genpoly_of_tablesBuilt (h₁ : Spec.TablesBuilt e₁ l₁) (h₂ : Spec.TablesBuilt e₂ l₂) (mul : Byte → Byte → Byte) {n : Nat}
    (hn : n ≤ 510) : genpoly e₁ mul n = genpoly e₂ mul n := by
  unfold genpoly
  refine List.foldl_ext _ _ _ fun g i hi => ?_
  have := List.mem_range.1 hi
  rw [exp_of_tablesBuilt h₁ h₂ (by omega)]

end

/-- States that agree on PLEN, the payload below it and FMT, with the tables built in both, give ENCODE the same input. -/
theorem encodeInput_congr {s₁ s₂ : State} (h₁ : Spec.TablesBuilt s₁.exp s₁.log) (h₂ : Spec.TablesBuilt s₂.exp s₂.log)
    (hplen : s₁.plen = s₂.plen) (hpay : ∀ i, i < s₁.plen.toNat → entry s₁.pay i = entry s₂.pay i) (hfmt : s₁.fmt = s₂.fmt) :
    encodeInput s₁ = encodeInput s₂ := by
  have payload : payOperand s₁ = payOperand s₂ := by
    have := s₁.plen.isLt
    rw [payOperand, payOperand, ← hplen]
    exact leading_congr (by omega) (by omega) hpay
  rw [encodeInput, encodeInput, hplen, payload, hfmt, gfMul_of_tablesBuilt h₁ h₂,
    genpoly_of_tablesBuilt h₁ h₂ _ (by decide)]

end Sys2Proof.Machine

namespace Sys2Proof.Proofs

open Sys2Proof.Machine

/-- Settles O50: both states give ENCODE the same input, and the input alone decides the error raised or the files left. -/
theorem encodeDependsOnThePayloadOnly : Obligations.EncodeDependsOnThePayloadOnly := by
  unfold Obligations.EncodeDependsOnThePayloadOnly
  intro s₁ s₂ t₁ t₂ err₁ err₂ gfv₁ gfv₂ tab₁ tab₂ hplen hpay hfmt run₁ run₂
  have same := encodeInput_congr tab₁ tab₂ hplen hpay hfmt
  cases hf : (encodeInput s₁).failure with
  | some e =>
    obtain ⟨u₁, hu₁⟩ := exec_encode_raises err₁ gfv₁ hf
    obtain ⟨u₂, hu₂⟩ := exec_encode_raises err₂ gfv₂ (same ▸ hf)
    obtain rfl : t₁ = u₁.enterError e := by simpa [hu₁] using run₁.symm
    obtain rfl : t₂ = u₂.enterError e := by simpa [hu₂] using run₂.symm
    simp
  | none =>
    obtain ⟨fits₁, hu₁⟩ := exec_encode_completes err₁ gfv₁ hf
    obtain ⟨fits₂, hu₂⟩ := exec_encode_completes err₂ gfv₂ (same ▸ hf)
    obtain rfl : t₁ = (encoded (s₁.setDone false)).setDone true := by simpa [hu₁] using run₁.symm
    obtain rfl : t₂ = (encoded (s₂.setDone false)).setDone true := by simpa [hu₂] using run₂.symm
    obtain ⟨bs₁, dcw₁, gen₁, ecc₁, mx₁⟩ := encoded_files (s := s₁.setDone false) fits₁
    obtain ⟨bs₂, dcw₂, gen₂, ecc₂, mx₂⟩ := encoded_files (s := s₂.setDone false) fits₂
    have same' : encodeInput (s₁.setDone false) = encodeInput (s₂.setDone false) := same
    have noErr : ∀ s : State, s.err = false → (encoded (s.setDone false)).err = false := fun _ h => h
    simp [noErr, err₁, err₂, bs₁, dcw₁, gen₁, ecc₁, mx₁, bs₂, dcw₂, gen₂, ecc₂, mx₂, same']

end Sys2Proof.Proofs
end

section
/-! PROOFS. What every command can do: the effect of a rule that completes, and the three ways a command ends (R81, R224). -/

namespace Sys2Proof.Machine

/-! ### The effect of a rule -/

/-- What the rule of a command leaves when it completes, with the guards it has passed. -/
inductive Effect (s : State) : Instr → State → Prop
  | nop : Effect s .nop s
  | clrerr : Effect s .clrerr s.clearError
  | gfbuild : Effect s .gfbuild (s.setTables (buildExp s.exp) (buildLog s.log))
  | gfmul (gfv : s.gfv = true) : Effect s .gfmul (s.setProduct (gfMul s.exp s.log s.gfa s.gfb))
  | pmul (gfv : s.gfv = true) (pa : legalLength s.palen = true) (pb : legalLength s.pblen = true) :
      Effect s .pmul
        (s.setResult (pmul (gfMul s.exp s.log) (paOperand s) (pbOperand s)) (s.palen.toNat + s.pblen.toNat - 1))
  | pdiv (gfv : s.gfv = true) (pa : legalLength s.palen = true) (pb : legalLength s.pblen = true)
      (le : s.pblen.toNat ≤ s.palen.toNat) :
      Effect s .pdiv (s.setResult (pdivrem (gfMul s.exp s.log) (paOperand s) (pbOperand s)) (s.pblen.toNat - 1))
  | rsgen {n : Nat} (gfv : s.gfv = true) (le : n ≤ 31) :
      Effect s (.rsgen n) (s.setGenerator (genpoly s.exp (gfMul s.exp s.log) n) (n + 1))
  | rsenc (gfv : s.gfv = true) (present : 1 ≤ s.genlen.toNat) (le : s.dcwn.toNat ≤ 32) :
      Effect s .rsenc (s.setEcc (rsRemainder (gfMul s.exp s.log) (dataOperand s) (genOperand s)) (s.genlen.toNat - 1))
  | bsenc (representable : firstUnrepresentable (payOperand s) = none) : Effect s .bsenc (withRaw s)
  | bspad (raw : s.bsst = .raw) (le : s.blen.toNat ≤ 152) :
      Effect s .bspad (s.setBits s.blen.toNat ((pad (bitOperand s) 152).drop s.blen.toNat) 152 .padded)
  | bssplit (padded : s.bsst = .padded) : Effect s .bssplit (s.setData (splitCodewords (leading s.bs 152) 19) 19)
  | mxinit : Effect s .mxinit (s.setMatrix (tabulate 441 fun _ => ⟨false, false, false⟩) 1)
  | mxfind (stage : s.mxs = 1) : Effect s .mxfind (s.setMatrix (mapCells findCell s.mx) 2)
  | mxtime (stage : s.mxs = 2) : Effect s .mxtime (s.setMatrix (mapCells timeCell s.mx) 3)
  | mxfrsv (stage : s.mxs = 3) : Effect s .mxfrsv (s.setMatrix (mapCells reserveCell s.mx) 4)
  | mxplace (stage : s.mxs = 4) (length : streamLength s = 208) :
      Effect s .mxplace (s.setMatrix (placeBits (cwbits s) s.mx) 5)
  | mxmask (stage : s.mxs = 5) : Effect s .mxmask (s.setMatrix (mapCells maskCell s.mx) 6)
  | mxfmt (stage : s.mxs = 6) : Effect s .mxfmt (s.setMatrix (mapCells (formatCell s.fmt) s.mx) 7)
  | encode (gfv : s.gfv = true) (representable : firstUnrepresentable (payOperand s) = none)
      (le : (encodeInput s).raw.length ≤ 152) : Effect s .encode (encoded s)

/-- A rule ends in the effect of its command, or raises an error in the state it started in; ENCODE may also raise one with BSENC's
effect behind it (R203, R224). -/
def EndsPrecisely (s : State) (i : Instr) (r : Ran) : Prop :=
  (∃ t, r = .done t ∧ Effect s i t) ∨
  ∃ e u, r = .raised e u ∧ e.cause ≠ .none ∧ (u = s ∨ i = .encode ∧ Effect s .bsenc u)

theorem Effect.endsPrecisely {s t : State} {i : Instr} (h : Effect s i t) : EndsPrecisely s i (.done t) := .inl ⟨t, rfl, h⟩

theorem endsPrecisely_raised {s : State} {i : Instr} {e : Raise} (h : e.cause ≠ .none) : EndsPrecisely s i (.raised e s) :=
  .inr ⟨e, s, rfl, h, .inl rfl⟩

theorem endsPrecisely_require {s : State} {i : Instr} {ok : Bool} {e : Raise} {rest : Ran} (he : e.cause ≠ .none)
    (h : ok = true → EndsPrecisely s i rest) : EndsPrecisely s i (require ok e s rest) := by
  cases ok with
  | false => exact endsPrecisely_raised he
  | true => exact h rfl

theorem endsPrecisely_requireStage {s : State} {i : Instr} {stage : BitVec 3} {rest : Ran}
    (h : s.mxs = stage - 1 → EndsPrecisely s i rest) : EndsPrecisely s i (requireStage stage i s rest) :=
  endsPrecisely_require nofun fun ok => h (eq_of_beq ok)

/-- ENCODE's rule fails without tables, in BSENC, or in BSPAD, and in no later stage (R202). -/
theorem bodyEncode_endsPrecisely (s : State) : EndsPrecisely s .encode (bodyEncode s) := by
  refine endsPrecisely_require nofun fun gfv => ?_
  cases hp : firstUnrepresentable (payOperand s) with
  | some k => rw [encodeStages, runStages_raised (bodyBsenc_raised hp)]; exact endsPrecisely_raised nofun
  | none =>
    by_cases hl : (encodeInput s).raw.length ≤ Config.totalBits
    · rw [runStages_encode gfv hp hl]; exact (Effect.encode gfv hp hl).endsPrecisely
    · rw [encodeStages, runStages_done (bodyBsenc_done hp), runStages_raised (bodyBspad_raised hl)]
      exact .inr ⟨_, _, rfl, nofun, .inr ⟨rfl, Effect.bsenc hp⟩⟩

/-- EVERY RULE IS PRECISE (R224). -/
theorem bodyOf_endsPrecisely (i : Instr) (s : State) : EndsPrecisely s i (bodyOf i s) := by
  cases i with
  | nop => exact Effect.nop.endsPrecisely
  | clrerr => exact Effect.clrerr.endsPrecisely
  | gfbuild => exact Effect.gfbuild.endsPrecisely
  | gfmul => exact endsPrecisely_require nofun fun gfv => (Effect.gfmul gfv).endsPrecisely
  | pmul =>
    exact endsPrecisely_require nofun fun gfv => endsPrecisely_require nofun fun pa => endsPrecisely_require nofun fun pb =>
      (Effect.pmul gfv pa pb).endsPrecisely
  | pdiv =>
    exact endsPrecisely_require nofun fun gfv => endsPrecisely_require nofun fun pa => endsPrecisely_require nofun fun pb =>
      endsPrecisely_require nofun fun le => (Effect.pdiv gfv pa pb (of_decide_eq_true le)).endsPrecisely
  | rsgen n =>
    exact endsPrecisely_require nofun fun gfv => endsPrecisely_require nofun fun le =>
      (Effect.rsgen gfv (of_decide_eq_true le)).endsPrecisely
  | rsenc =>
    exact endsPrecisely_require nofun fun gfv => endsPrecisely_require nofun fun present =>
      endsPrecisely_require nofun fun le =>
        (Effect.rsenc gfv (of_decide_eq_true present) (of_decide_eq_true le)).endsPrecisely
  | bsenc =>
    cases h : firstUnrepresentable (payOperand s) with
    | none => rw [bodyOf, bodyBsenc_done h]; exact (Effect.bsenc h).endsPrecisely
    | some k => rw [bodyOf, bodyBsenc_raised h]; exact endsPrecisely_raised nofun
  | bspad =>
    exact endsPrecisely_require nofun fun raw => endsPrecisely_require nofun fun le =>
      (Effect.bspad (eq_of_beq raw) (of_decide_eq_true le)).endsPrecisely
  | bssplit => exact endsPrecisely_require nofun fun padded => (Effect.bssplit (eq_of_beq padded)).endsPrecisely
  | mxinit => rw [bodyOf, bodyMxinit, mapCells_const]; exact Effect.mxinit.endsPrecisely
  | mxfind => exact endsPrecisely_requireStage fun stage => (Effect.mxfind stage).endsPrecisely
  | mxtime => exact endsPrecisely_requireStage fun stage => (Effect.mxtime stage).endsPrecisely
  | mxfrsv => exact endsPrecisely_requireStage fun stage => (Effect.mxfrsv stage).endsPrecisely
  | mxplace =>
    exact endsPrecisely_requireStage fun stage => endsPrecisely_require nofun fun length =>
      (Effect.mxplace stage (of_decide_eq_true length)).endsPrecisely
  | mxmask => exact endsPrecisely_requireStage fun stage => (Effect.mxmask stage).endsPrecisely
  | mxfmt => exact endsPrecisely_requireStage fun stage => (Effect.mxfmt stage).endsPrecisely
  | encode => exact bodyEncode_endsPrecisely s

/-! ### The end of a command -/

/-- EVERYTHING A COMMAND CAN DO: be ignored while an error is pending; leave the effect of its rule and DONE set; or enter an error
(R81, R224, R232). -/
theorem exec_cases {i : Instr} {s t : State} (h : exec i s = .next t) :
    (s.err = true ∧ i ≠ .clrerr ∧ t = s) ∨
    ((s.err = false ∨ i = .clrerr) ∧ ∃ u, Effect (s.setDone false) i u ∧ t = u.setDone true) ∨
    ∃ e u, e.cause ≠ .none ∧ (u = s.setDone false ∨ i = .encode ∧ Effect (s.setDone false) .bsenc u) ∧
      t = u.enterError e := by
  rw [exec_eq_runCommand] at h
  by_cases ignored : s.err = true ∧ i ≠ .clrerr
  · obtain ⟨pending, other⟩ := ignored
    rw [beq_eq_false_iff_ne.2 other, runCommand_ignored pending] at h
    cases h
    exact .inl ⟨pending, other, rfl⟩
  · right
    have accepted : s.err = false ∨ i = .clrerr := (not_and_or.1 ignored).imp (Bool.eq_false_of_not_eq_true ·) not_not.1
    obtain ⟨pending, other, -⟩ | ⟨u, run, rfl⟩ | ⟨e, u, run, rfl⟩ := runCommand_cases h
    · exact absurd ⟨pending, beq_eq_false_iff_ne.1 other⟩ ignored
    all_goals
      obtain ⟨u', run', effect⟩ | ⟨e', u', run', cause, left⟩ := bodyOf_endsPrecisely i (s.setDone false) <;>
        cases run'.symm.trans run
    · exact .inl ⟨accepted, u, effect, rfl⟩
    · exact .inr ⟨e, u, cause, left, rfl⟩

/-! ### The word of a command (R80, R82, R83) -/

theorem word_eq_of_fields {w v : Word} (ho : opcOf w = opcOf v) (hi : immOf w = immOf v) : w = v := by
  refine BitVec.eq_of_getLsbD_eq fun j hj => ?_
  by_cases low : j < 8
  · have := congrArg (BitVec.getLsbD · j) hi
    simpa [immOf, low] using this
  · have := congrArg (BitVec.getLsbD · (j - 8)) ho
    simpa [opcOf, show j - 8 < 8 by omega, show 8 + (j - 8) = j by omega] using this

/-- The decoder's table lists each command under its opcode. -/
theorem opcOf_of_lookup {b : Byte} {i : Instr} (h : c0Rows.lookup b = some i) : opcOf (encode i) = b ∧ immOf (encode i) = 0 := by
  have all : ∀ b : Byte, (c0Rows.lookup b).all (fun i => opcOf (encode i) == b && immOf (encode i) == 0) = true := by
    decide +kernel
  simpa [h] using all b

/-- The word a command was decoded from is its encoding. -/
theorem encode_of_decode {w : Word} {i : Instr} (h : decode w = .ok i) : encode i = w := by
  unfold decode at h
  split at h
  next opc =>
    cases h
    obtain ⟨opc', imm⟩ := Laws.OpcodeByte.rsgen (immOf w).toNat
    exact word_eq_of_fields (opc'.trans opc.symm) (imm.trans (BitVec.ofNat_toNat 8 _))
  next =>
    split at h
    next j row =>
      split at h
      next zero =>
        cases h
        obtain ⟨opc, imm⟩ := opcOf_of_lookup row
        exact word_eq_of_fields opc (imm.trans zero.symm)
      next => contradiction
    next => contradiction

/-- A word that is no command raises ILLEGAL or is ignored; any other runs its command (R81, R225). -/
theorem execWord_cases {w : Word} {s t : State} (h : execWord w s = .next t) :
    (∃ i, decode w = .ok i ∧ exec i s = .next t) ∨ t = s ∨ t = (s.setDone false).enterError (Raise.ofIllegal w) := by
  cases hd : decode w with
  | ok i => exact .inl ⟨i, rfl, execWord_decoded hd s ▸ h⟩
  | error e =>
    rw [execWord_rejected hd] at h
    obtain ⟨-, -, same⟩ | ⟨u, run, -⟩ | ⟨e, u, run, rfl⟩ := runCommand_cases h
    · exact .inr (.inl same)
    · cases run
    · cases run; exact .inr (.inr rfl)

end Sys2Proof.Machine
end

section
/-! PROOFS. GFBUILD leaves the printed tables and rewrites built ones unchanged, and nothing else but a reset writes them (R101, R102,
R106); MXS goes up stage by stage (R40). -/

namespace Sys2Proof.Machine

/-! ### The tables GFBUILD leaves (R101, R102) -/

/-- Each index but 0 is a power, at the place the printed LOG table says (R102). -/
theorem expTable_at_logTable {a : Nat} (h1 : 1 ≤ a) (h2 : a < 256) :
    (Spec.expTable.map BitVec.toNat)[(Spec.logTable.getD a 0).toNat]? = some a := by
  have hi : (Spec.logTable.getD a 0).toNat < Spec.expTable.length :=
    Nat.lt_of_le_of_lt (logTable_le a) (by decide +kernel)
  have hl : Spec.logTable.length = 256 := by decide +kernel
  have power := congrArg (·[a - 1]?) exp_of_logTable
  rw [List.getElem?_map, List.getElem?_tail, Nat.sub_add_cancel h1, List.getElem?_eq_getElem (hl.symm ▸ h2),
    List.getElem?_range' (by omega), Option.map_some, ← List.getD_eq_getElem _ 0, List.getD_eq_getElem _ 0 hi] at power
  rw [List.getElem?_map, List.getElem?_eq_getElem hi, Option.map_some, power]
  congr 1
  omega

/-- The power whose number the printed LOG table gives is the only one that is the index. -/
theorem findIdx?_gfPowers {a : Nat} (h1 : 1 ≤ a) (h2 : a < 256) :
    ((gfPowers 255 1).findIdx? fun x => x.toNat == a) = some (Spec.logTable.getD a 0).toNat := by
  have found := expTable_at_logTable h1 h2
  have once := expTable_nodup
  rw [← gfPowers_toNat] at found once
  rw [show (fun x : BitVec 9 => x.toNat == a) = (· == a) ∘ BitVec.toNat from rfl, ← List.findIdx?_map,
    List.findIdx?_eq_some_iff_getElem]
  obtain ⟨hi, at_i⟩ := List.getElem?_eq_some_iff.1 found
  refine ⟨hi, beq_iff_eq.2 at_i, fun j hj same => ?_⟩
  have := once.getElem_inj_iff.1 ((beq_iff_eq.1 same).trans at_i.symm)
  omega

/-- Whatever the files held, GFBUILD leaves the printed tables (R102). -/
theorem tablesBuilt_build (e : Vector Byte 512) (l : Vector Byte 256) : Spec.TablesBuilt (buildExp e) (buildLog l) := by
  refine ⟨fun k hk => ?_, fun k h1 h2 => ?_, fun a h1 h2 => ?_⟩
  · rw [entry_buildExp _ _ (by omega), if_pos hk, gfPowers_eq_expTable]
  · rw [entry_buildExp _ _ (by omega), entry_buildExp _ _ (by omega), if_neg (by omega), if_pos (by omega), if_pos (by omega)]
  · rw [entry_buildLog _ _ h2, findIdx?_gfPowers h1 h2]
    exact BitVec.ofNat_toNat 8 _

/-- GFBUILD leaves LOG[0] as it was: 0 is no power (R101). -/
theorem entry_buildLog_zero (l : Vector Byte 256) : entry (buildLog l) 0 = entry l 0 := by
  have none : ((gfPowers 255 1).findIdx? fun x => x.toNat == 0) = none := by
    rw [List.findIdx?_eq_none_iff]
    intro x hx
    simpa using fun zero : x.toNat = 0 =>
      expTable_ne_zero (gfPowers_toNat ▸ zero ▸ List.mem_map_of_mem hx)
  rw [entry_buildLog _ _ (by decide), none]

/-- Built tables are rewritten unchanged (R106). -/
theorem build_of_tablesBuilt {e : Vector Byte 512} {l : Vector Byte 256} (h : Spec.TablesBuilt e l) :
    buildExp e = e ∧ buildLog l = l := by
  refine ⟨file_ext fun k hk => ?_, file_ext fun a ha => ?_⟩
  · by_cases written : k ≤ 509
    · exact exp_of_tablesBuilt (tablesBuilt_build e l) h written
    · rw [entry_buildExp _ _ hk, if_neg (by omega), if_neg (by omega)]
  · obtain ⟨-, -, rebuilt⟩ := tablesBuilt_build e l
    obtain ⟨-, -, built⟩ := h
    by_cases zero : a = 0
    · rw [zero, entry_buildLog_zero]
    · rw [rebuilt a (by omega) ha, built a (by omega) ha]

/-! ### What a completed rule keeps -/

section

variable (s : State)

@[simp] theorem encoded_err : (encoded s).err = s.err := by simp [encoded, withCodewords, withPadded, withRaw]
@[simp] theorem encoded_cause : (encoded s).cause = s.cause := by simp [encoded, withCodewords, withPadded, withRaw]
@[simp] theorem encoded_stage : (encoded s).stage = s.stage := by simp [encoded, withCodewords, withPadded, withRaw]
@[simp] theorem encoded_info : (encoded s).info = s.info := by simp [encoded, withCodewords, withPadded, withRaw]
@[simp] theorem encoded_gfv : (encoded s).gfv = s.gfv := by simp [encoded, withCodewords, withPadded, withRaw]
@[simp] theorem encoded_exp : (encoded s).exp = s.exp := by simp [encoded, withCodewords, withPadded, withRaw]
@[simp] theorem encoded_log : (encoded s).log = s.log := by simp [encoded, withCodewords, withPadded, withRaw]
@[simp] theorem encoded_genlen : (encoded s).genlen = 8 := by simp [encoded, withCodewords]
@[simp] theorem encoded_eccn : (encoded s).eccn = 7 := by simp [encoded, withCodewords]

end

/-- An accepted command that completes leaves no error pending (R81, R201). -/
theorem Effect.err_of_accepted {s t : State} {i : Instr} (h : Effect s i t) (accepted : s.err = false ∨ i = .clrerr) :
    t.err = false := by
  cases h with
  | clrerr => rfl
  | encode => exact (encoded_err s).trans (accepted.resolve_right nofun)
  | _ => exact accepted.resolve_right nofun

/-- Only GFBUILD writes the tables, and no rule clears GFV (R101, R106). -/
theorem Effect.tables {s t : State} {i : Instr} (h : Effect s i t) :
    (s.gfv = true → t.gfv = true) ∧ (i ≠ .gfbuild → t.exp = s.exp ∧ t.log = s.log) := by
  cases h with
  | gfbuild => exact ⟨fun _ => rfl, fun other => absurd rfl other⟩
  | encode => simp
  | _ => exact ⟨id, fun _ => ⟨rfl, rfl⟩⟩

/-- Only GFBUILD writes the tables, and no command clears GFV. -/
theorem exec_tables {i : Instr} {s t : State} (h : exec i s = .next t) :
    (s.gfv = true → t.gfv = true) ∧ (i ≠ .gfbuild → t.exp = s.exp ∧ t.log = s.log) := by
  obtain ⟨-, -, rfl⟩ | ⟨-, u, effect, rfl⟩ | ⟨e, u, -, rfl | ⟨-, effect⟩, rfl⟩ := exec_cases h
  · exact ⟨id, fun _ => ⟨rfl, rfl⟩⟩
  · exact effect.tables
  · exact ⟨id, fun _ => ⟨rfl, rfl⟩⟩
  · obtain ⟨gfv, kept⟩ := effect.tables
    exact ⟨gfv, fun _ => kept nofun⟩

/-- A host write to a location other than CMD writes no table. -/
theorem writeLocation_tables (s : State) (v : Word) (l : Location) :
    (writeLocation s v l).gfv = s.gfv ∧ (writeLocation s v l).exp = s.exp ∧ (writeLocation s v l).log = s.log := by
  cases l with
  | reg r => cases r <;> exact ⟨rfl, rfl, rfl⟩
  | _ => exact ⟨rfl, rfl, rfl⟩

/-- Only the word 0x0100 runs a GFBUILD. -/
theorem execWord_tables {w : Word} {s t : State} (h : execWord w s = .next t) :
    (s.gfv = true → t.gfv = true) ∧ (w ≠ 0x0100 → t.exp = s.exp ∧ t.log = s.log) := by
  obtain ⟨i, decoded, run⟩ | rfl | rfl := execWord_cases h
  · obtain ⟨gfv, kept⟩ := exec_tables run
    exact ⟨gfv, fun other => kept fun gfbuild => other (by rw [← encode_of_decode decoded, gfbuild]; rfl)⟩
  all_goals exact ⟨id, fun _ => ⟨rfl, rfl⟩⟩

end Sys2Proof.Machine

namespace Sys2Proof.Proofs

open Sys2Proof.Machine

/-- Settles O22: of all rules only GFBUILD's writes the tables, and it writes the printed ones, which built tables are already. -/
theorem tablesAreReadOnlyOnceBuilt : Obligations.TablesAreReadOnlyOnceBuilt := by
  unfold Obligations.TablesAreReadOnlyOnceBuilt
  refine ⟨fun tr s t run other => ?_, fun s t built run => ?_⟩
  · cases tr with
    | reset => exact absurd rfl other
    | read a => cases run; exact ⟨id, fun _ => ⟨rfl, rfl⟩⟩
    | write a v =>
      by_cases cmd : a = cmdAddress
      · subst cmd
        obtain ⟨gfv, kept⟩ := execWord_tables ((hostWrite_cmd v s).symm.trans run)
        exact ⟨gfv, fun word => kept fun h => word (by rw [h]; rfl)⟩
      · cases (hostWrite_other cmd v s).symm.trans run
        obtain ⟨gfv, exp, log⟩ := writeLocation_tables s v (locate a)
        exact ⟨fun h => gfv.trans h, fun _ => ⟨exp, log⟩⟩
  · obtain ⟨-, -, rfl⟩ | ⟨-, u, effect, rfl⟩ | ⟨e, u, -, rfl | ⟨encode, -⟩, rfl⟩ := exec_cases run
    · exact ⟨rfl, rfl⟩
    · cases effect; exact build_of_tablesBuilt built
    · exact ⟨rfl, rfl⟩
    · exact nomatch encode

/-- Settles O44: each completed rule says the stage it needs and the stage it leaves; an error leaves the stage. -/
theorem matrixStageAdvancesInOrder : Obligations.MatrixStageAdvancesInOrder := by
  unfold Obligations.MatrixStageAdvancesInOrder
  intro i s t run
  obtain ⟨pending, other, rfl⟩ | ⟨accepted, u, effect, rfl⟩ | ⟨e, u, -, left, rfl⟩ := exec_cases run
  · exact ⟨fun _ => rfl, fun clear => absurd (pending.symm.trans clear) nofun⟩
  · refine ⟨fun failed => absurd ((effect.err_of_accepted accepted).symm.trans failed) nofun, fun _ => ?_⟩
    cases effect with
    | mxfind stage | mxtime stage | mxfrsv stage | mxplace stage | mxmask stage | mxfmt stage => exact ⟨stage, rfl⟩
    | _ => rfl
  · refine ⟨fun _ => ?_, nofun⟩
    obtain rfl | ⟨-, effect⟩ := left
    · rfl
    · cases effect; rfl

end Sys2Proof.Proofs
end

section
/-! PROOFS. What the matrix stages make of the picture of R180: each command writes the cells its marks name, and takes a matrix that
fits one stage to one that fits the next (R43, R171 to R177). -/

namespace Sys2Proof.Machine

/-- Every cell of the matrix fits stage `st` (R43). -/
def FitsStage (st : Nat) (mx : Vector Cell 441) : Prop :=
  ∀ r c, r < 21 → c < 21 → Spec.cellFits st (Spec.mark r c) (Spec.cellAt mx r c) = true

/-! ### The cells a stage writes, by their marks -/

theorem mark_le : ∀ r < 21, ∀ c < 21, Spec.mark r c ≤ 6 := by decide +kernel

theorem mark_column_six : ∀ r < 21, Spec.mark r 6 ≠ 0 := by decide +kernel

/-- MXFIND writes the finder and separator cells (R172). -/
theorem finderValue_eq : ∀ r < 21, ∀ c < 21, finderValue r c =
    if Spec.mark r c = 1 ∨ Spec.mark r c = 2 ∨ Spec.mark r c = 3 then some (Spec.mark r c == 1) else none := by decide +kernel

/-- MXTIME writes the timing cells (R173). -/
theorem timingValue_eq : ∀ r < 21, ∀ c < 21, timingValue r c =
    if Spec.mark r c = 4 ∨ Spec.mark r c = 5 then some (Spec.mark r c == 4) else none := by decide +kernel

/-- MXFRSV reserves the format cells (R174). -/
theorem formatArea_eq : ∀ r < 21, ∀ c < 21, formatArea r c = (Spec.mark r c == 6) := by decide +kernel

/-- MXFMT writes the format cells (R177). -/
theorem isSome_formatBit : ∀ r < 21, ∀ c < 21, (formatBit r c).isSome = (Spec.mark r c == 6) := by decide +kernel

section

variable {r c : Nat} (hr : r < 21) (hc : c < 21) (x : Cell)

include hr hc

theorem findCell_eq : findCell r c x =
    if Spec.mark r c = 1 ∨ Spec.mark r c = 2 ∨ Spec.mark r c = 3 then ⟨Spec.mark r c == 1, true, x.d⟩ else x := by
  rw [findCell, finderValue_eq r hr c hc]
  split_ifs <;> rfl

theorem timeCell_eq : timeCell r c x =
    if Spec.mark r c = 4 ∨ Spec.mark r c = 5 then ⟨Spec.mark r c == 4, true, x.d⟩ else x := by
  rw [timeCell, timingValue_eq r hr c hc]
  split_ifs <;> rfl

theorem reserveCell_eq : reserveCell r c x = if Spec.mark r c = 6 then { x with r := true } else x := by
  rw [reserveCell, formatArea_eq r hr c hc]
  simp only [beq_iff_eq]

/-- MXFMT keeps R and D, and V outside the format cells. -/
theorem formatCell_eq (fmt : Word) : ∃ b, formatCell fmt r c x = if Spec.mark r c = 6 then { x with v := b } else x := by
  have written := isSome_formatBit r hr c hc
  unfold formatCell
  cases h : formatBit r c with
  | none => exact ⟨false, (if_neg (by simpa [h] using written)).symm⟩
  | some i => exact ⟨fmt.getLsbD i, (if_pos (by simpa [h] using written)).symm⟩

end

/-! ### From a matrix that fits one stage to the next -/

/-- A stage that works cell by cell, and that takes a cell of every mark from one stage to another, does so with the matrix. -/
theorem fitsStage_mapCells {st st' : Nat} {f : Nat → Nat → Cell → Cell} {mx : Vector Cell 441} (h : FitsStage st mx)
    (step : ∀ r c x, r < 21 → c < 21 → Spec.cellFits st (Spec.mark r c) x = true →
      Spec.cellFits st' (Spec.mark r c) (f r c x) = true) : FitsStage st' (mapCells f mx) := fun r c hr hc => by
  rw [cellAt_mapCells f mx hr hc]
  exact step r c _ hr hc (h r c hr hc)

theorem cellFits_clear : ∀ m ≤ 6, Spec.cellFits 1 m ⟨false, false, false⟩ = true := by decide

theorem cellFits_find : ∀ m ≤ 6, ∀ v r d, Spec.cellFits 1 m ⟨v, r, d⟩ = true →
    Spec.cellFits 2 m (if m = 1 ∨ m = 2 ∨ m = 3 then ⟨m == 1, true, d⟩ else ⟨v, r, d⟩) = true := by decide

theorem cellFits_time : ∀ m ≤ 6, ∀ v r d, Spec.cellFits 2 m ⟨v, r, d⟩ = true →
    Spec.cellFits 3 m (if m = 4 ∨ m = 5 then ⟨m == 4, true, d⟩ else ⟨v, r, d⟩) = true := by decide

theorem cellFits_reserve : ∀ m ≤ 6, ∀ v r d, Spec.cellFits 3 m ⟨v, r, d⟩ = true →
    Spec.cellFits 4 m (if m = 6 then ⟨v, true, d⟩ else ⟨v, r, d⟩) = true := by decide

/-- After stage 4 the unreserved cells are the unmarked ones (R180). -/
theorem cellFits_reserved : ∀ m ≤ 6, ∀ v r d, Spec.cellFits 4 m ⟨v, r, d⟩ = true → r = (m != 0) := by decide

theorem cellFits_place_free : ∀ b, Spec.cellFits 5 0 ⟨b, true, true⟩ = true := by decide

theorem cellFits_place_kept : ∀ m ≤ 6, m ≠ 0 → ∀ v r d, Spec.cellFits 4 m ⟨v, r, d⟩ = true →
    Spec.cellFits 5 m ⟨v, r, d⟩ = true := by decide

theorem cellFits_mask : ∀ m ≤ 6, ∀ even v r d, Spec.cellFits 5 m ⟨v, r, d⟩ = true →
    Spec.cellFits 6 m (if d && even then ⟨!v, r, d⟩ else ⟨v, r, d⟩) = true := by decide

theorem cellFits_format : ∀ m ≤ 6, ∀ b v r d, Spec.cellFits 6 m ⟨v, r, d⟩ = true →
    Spec.cellFits 7 m (if m = 6 then ⟨b, r, d⟩ else ⟨v, r, d⟩) = true := by decide

section

variable {mx : Vector Cell 441}

theorem fitsStage_clear : FitsStage 1 (tabulate 441 fun _ => ⟨false, false, false⟩) := fun r c hr hc => by
  rw [Spec.cellAt, entry_tabulate _ _ (cellIndex_lt hr hc)]
  exact cellFits_clear _ (mark_le r hr c hc)

theorem fitsStage_find (h : FitsStage 1 mx) : FitsStage 2 (mapCells findCell mx) :=
  fitsStage_mapCells h fun r c x hr hc hx => by
    rw [findCell_eq hr hc]
    exact cellFits_find _ (mark_le r hr c hc) x.v x.r x.d hx

theorem fitsStage_time (h : FitsStage 2 mx) : FitsStage 3 (mapCells timeCell mx) :=
  fitsStage_mapCells h fun r c x hr hc hx => by
    rw [timeCell_eq hr hc]
    exact cellFits_time _ (mark_le r hr c hc) x.v x.r x.d hx

theorem fitsStage_reserve (h : FitsStage 3 mx) : FitsStage 4 (mapCells reserveCell mx) :=
  fitsStage_mapCells h fun r c x hr hc hx => by
    rw [reserveCell_eq hr hc]
    exact cellFits_reserve _ (mark_le r hr c hc) x.v x.r x.d hx

/-- MXPLACE fills and reserves exactly the unmarked cells, for its walk passes over column 6 only, where every cell is marked
(R175). -/
theorem fitsStage_place (stream : List Bool) (h : FitsStage 4 mx) : FitsStage 5 (placeBits stream mx) := fun r c hr hc => by
  have hk := cellIndex_lt hr hc
  have hm := mark_le r hr c hc
  have before := h r c hr hc
  have reserved : (Spec.cellAt mx r c).r = (Spec.mark r c != 0) := cellFits_reserved _ hm _ _ _ before
  by_cases free : cellIndex r c ∈ freeCells mx
  · obtain ⟨j, hj, at_j⟩ := List.getElem_of_mem free
    obtain ⟨-, light⟩ := (mem_freeCells mx _).1 free
    have unmarked : Spec.mark r c = 0 := by simpa [Spec.cellAt, light] using reserved.symm
    rw [Spec.cellAt, ← at_j, entry_placeBits_free stream mx j hj, unmarked]
    exact cellFits_place_free _
  · have marked : Spec.mark r c ≠ 0 := by
      intro unmarked
      have unreserved : (entry mx (cellIndex r c)).r = false := by simpa [Spec.cellAt, unmarked] using reserved
      refine free ((mem_freeCells mx _).2 ⟨(mem_walk_iff ⟨_, hk⟩).2 fun six => ?_, unreserved⟩)
      obtain rfl : c = 6 := (cellIndex_column hc).symm.trans six
      exact mark_column_six r hr unmarked
    rw [Spec.cellAt, entry_placeBits_kept stream mx _ hk free]
    exact cellFits_place_kept _ hm marked _ _ _ before

theorem fitsStage_mask (h : FitsStage 5 mx) : FitsStage 6 (mapCells maskCell mx) :=
  fitsStage_mapCells h fun r c x hr hc hx =>
    cellFits_mask _ (mark_le r hr c hc) (decide ((r + c) % 2 = 0)) x.v x.r x.d hx

theorem fitsStage_format (fmt : Word) (h : FitsStage 6 mx) : FitsStage 7 (mapCells (formatCell fmt) mx) :=
  fitsStage_mapCells h fun r c x hr hc hx => by
    obtain ⟨b, hb⟩ := formatCell_eq hr hc x fmt
    rw [hb]
    exact cellFits_format _ (mark_le r hr c hc) b x.v x.r x.d hx

end

/-- The matrix ENCODE leaves fits the last stage (R181). -/
theorem fitsStage_encoded (x : EncodeInput) : FitsStage 7 x.matrix :=
  fitsStage_format _ (fitsStage_mask (fitsStage_place _ (fitsStage_reserve (fitsStage_time (fitsStage_find fitsStage_clear)))))

end Sys2Proof.Machine
end

section
/-! PROOFS. The machine's product, division, generator, remainder and padding are the literal loops of R121, R123, R125, R127 and
R152, and the codewords of a stream concatenate to it (R155). -/

namespace Sys2Proof.Machine

/-! ### Products and remainders (R121 to R127) -/

/-- A loop that exclusive-ors `f j` into entry `i + j` for `j` below `m`, entry by entry. -/
theorem foldl_xorAt (p : Nat → Prop) [DecidablePred p] (f : Nat → Byte) (i m : Nat) (w : List Byte) :
    (List.range m).foldl (fun w j => if p j then Spec.xorAt w (i + j) (f j) else w) w =
      w.zipIdx.map fun (x, k) => if i ≤ k ∧ k - i < m ∧ p (k - i) then x ^^^ f (k - i) else x := by
  induction m with
  | zero => simp
  | succ m ih =>
    rw [List.range_succ, List.foldl_append, ih, List.foldl_cons, List.foldl_nil]
    refine List.ext_getElem (by split <;> simp [Spec.xorAt]) fun k h1 h2 => ?_
    have hk : k < w.length := by simpa using h2
    by_cases here : k = i + m
    · subst here
      split_ifs with hp
      · simp [Spec.xorAt, hp, hk]; omega
      · simp [hp]
    · have same : (i ≤ k ∧ k - i < m + 1 ∧ p (k - i)) ↔ (i ≤ k ∧ k - i < m ∧ p (k - i)) := by
        constructor <;> (rintro ⟨h, lt, hp⟩; exact ⟨h, by omega, hp⟩)
      split_ifs <;> simp only [Spec.xorAt, List.getElem_set_ne (Ne.symm here), List.getElem_map, List.getElem_zipIdx,
        Nat.zero_add, same]

/-- One position of the division is the inner loop of R123. -/
theorem divideAt_eq_loop (mul : Byte → Byte → Byte) (d w : List Byte) (i : Nat) :
    divideAt mul d w i = if w.getD i 0 ≠ 0 then Spec.scaleInto mul d w i (w.getD i 0) else w := by
  rw [divideAt, ite_not, Spec.scaleInto, foldl_xorAt (fun j => d.getD j 0 ≠ 0) fun j => mul (d.getD j 0) (w.getD i 0)]

theorem pdivrem_eq_loop (mul : Byte → Byte → Byte) (u d : List Byte) : pdivrem mul u d = Spec.pdivrem mul u d := by
  rw [pdivrem, Spec.pdivrem, funext₂ (divideAt_eq_loop mul d)]

theorem rsRemainder_eq_loop (mul : Byte → Byte → Byte) (data g : List Byte) :
    rsRemainder mul data g = Spec.rsRemainder mul data g := by
  simp only [rsRemainder, Spec.rsRemainder, pdivrem_eq_loop]

/-- The first `n` rounds of the outer loop of R121, entry by entry. -/
theorem foldl_pmul (mul : Byte → Byte → Byte) (p q w : List Byte) (n : Nat) :
    (List.range n).foldl (fun r i =>
        (List.range q.length).foldl (fun r j => Spec.xorAt r (i + j) (mul (p.getD i 0) (q.getD j 0))) r) w =
      w.zipIdx.map fun (x, k) => (List.range n).foldl (fun acc i =>
        if i ≤ k ∧ k - i < q.length then acc ^^^ mul (p.getD i 0) (q.getD (k - i) 0) else acc) x := by
  induction n with
  | zero => simp
  | succ n ih =>
    have row := foldl_xorAt (fun _ => True) (fun j => mul (p.getD n 0) (q.getD j 0)) n q.length
    simp only [if_true, and_true] at row
    simp only [List.range_succ, List.foldl_append, List.foldl_cons, List.foldl_nil, ih, row]
    refine List.ext_getElem (by simp) fun k h1 h2 => ?_
    simp

theorem pmul_eq_loop (mul : Byte → Byte → Byte) (p q : List Byte) : pmul mul p q = Spec.pmul mul p q := by
  rw [Spec.pmul, foldl_pmul]
  exact List.ext_getElem (by simp) fun k h1 h2 => by simp [getElem_pmul, productAt]

theorem genpoly_eq_loop (exp : Vector Byte 512) (mul : Byte → Byte → Byte) (n : Nat) :
    genpoly exp mul n = Spec.genpoly exp mul n := by
  simp only [genpoly, Spec.genpoly, pmul_eq_loop]

/-! ### The padding (R152) -/

/-- Filling to a multiple of 8 takes at most 7 rounds. -/
theorem fillLoop_eq (fuel : Nat) (b : List Bool) (h : (8 - b.length % 8) % 8 ≤ fuel) :
    Spec.fillLoop fuel b = b ++ List.replicate ((8 - b.length % 8) % 8) false := by
  induction fuel generalizing b with
  | zero => rw [Nat.le_zero.1 h]; simp [Spec.fillLoop]
  | succ fuel ih =>
    rw [Spec.fillLoop]
    split
    next more =>
      have len : (b ++ [false]).length = b.length + 1 := by simp
      have count : (8 - b.length % 8) % 8 = (8 - (b.length + 1) % 8) % 8 + 1 := by omega
      rw [ih _ (by omega), len, count, List.append_assoc, List.replicate_succ]; rfl
    next full =>
      have count : (8 - b.length % 8) % 8 = 0 := by omega
      rw [count]; simp

/-- The pad codewords from number `k` on, `n` of them (R152). -/
def padFrom (k n : Nat) : List Bool :=
  (List.range n).flatMap fun t => msb8 (if (k + t) % 2 = 0 then Config.pad0 else Config.pad1)

theorem padFrom_succ (k n : Nat) :
    padFrom k (n + 1) = msb8 (if k % 2 = 0 then Config.pad0 else Config.pad1) ++ padFrom (k + 1) n := by
  simp [padFrom, List.range_succ_eq_map, List.flatMap_map, Nat.add_assoc, Nat.add_comm 1]

theorem padFrom_parity {k k' : Nat} (h : k % 2 = k' % 2) (n : Nat) : padFrom k n = padFrom k' n := by
  have parity : ∀ t, (k + t) % 2 = (k' + t) % 2 := fun t => by omega
  simp only [padFrom, parity]

/-- The pad loop appends alternating codewords for as long as the stream is short. -/
theorem padLoop_eq (fuel k total : Nat) (b : List Bool) (hk : k ≤ 1) (h : (total - b.length + 7) / 8 ≤ fuel) :
    Spec.padLoop fuel k total b = b ++ padFrom k ((total - b.length + 7) / 8) := by
  induction fuel generalizing k b with
  | zero => rw [Nat.le_zero.1 h]; simp [Spec.padLoop, padFrom]
  | succ fuel ih =>
    rw [Spec.padLoop]
    split
    next short =>
      have head : (if k = 0 then msb8 0xEC else msb8 0x11) = msb8 (if k % 2 = 0 then Config.pad0 else Config.pad1) := by
        obtain rfl | rfl : k = 0 ∨ k = 1 := by omega
        all_goals rfl
      rw [head]
      generalize hc : msb8 (if k % 2 = 0 then Config.pad0 else Config.pad1) = c
      have len : (b ++ c).length = b.length + 8 := by simp [← hc]
      have count : (total - b.length + 7) / 8 = (total - (b.length + 8) + 7) / 8 + 1 := by omega
      rw [ih (1 - k) (b ++ c) (by omega) (by omega), len, count, padFrom_succ, hc, List.append_assoc,
        padFrom_parity (show (1 - k) % 2 = (k + 1) % 2 by omega)]
    next full =>
      have count : (total - b.length + 7) / 8 = 0 := by omega
      rw [count]; simp [padFrom]

theorem pad_eq_loop (b : List Bool) (total : Nat) : pad b total = Spec.pad b total := by
  have codewords : ∀ n, padCodewords n = padFrom 0 n := fun n => by simp only [padFrom, padCodewords, Nat.zero_add]
  rw [Spec.pad, fillLoop_eq _ _ (by omega), padLoop_eq _ _ _ _ (by decide) (by omega), ← codewords]
  rfl

/-! ### The codewords of a stream (R155) -/

theorem flatMap_take_drop (b : List Bool) (n : Nat) :
    ((List.range n).flatMap fun k => (b.drop (8 * k)).take 8) = b.take (8 * n) := by
  induction n with
  | zero => simp
  | succ n ih => simp [List.range_succ, ih, Nat.mul_succ, List.take_add]

/-- The codewords of a stream of whole codewords concatenate to it. -/
theorem flatMap_splitCodewords {b : List Bool} {n : Nat} (h : b.length = 8 * n) : (splitCodewords b n).flatMap msb8 = b := by
  have whole : ∀ k ∈ List.range n, msb8 (byteOf ((b.drop (8 * k)).take 8)) = (b.drop (8 * k)).take 8 := fun k hk =>
    msb8_byteOf _ (by have := List.mem_range.1 hk; simp; omega)
  rw [splitCodewords, List.flatMap_map, List.flatMap_congr whole, flatMap_take_drop, ← h, List.take_length]

end Sys2Proof.Machine
end

section
/-! PROOFS. The invariant, part by part: the error fields, the tables, the bit stream, the generator and the matrix, each kept by the
effect of every rule; hence kept by every command, every host transaction and every step. -/

namespace Sys2Proof.Machine

/-! ### The error fields (R25, R27, R28) -/

/-- No error is pending and nothing of one is left. -/
def NoError (s : State) : Prop := s.err = false ∧ s.cause = .none ∧ s.stage = 0 ∧ s.info = 0

theorem errorAgrees_of_noError {s : State} (h : NoError s) : Spec.ErrorAgrees s := by
  obtain ⟨err, cause, stage, info⟩ := h
  simp [Spec.ErrorAgrees, err, cause, stage, info]

theorem noError_of_errorAgrees {s : State} (h : Spec.ErrorAgrees s) (err : s.err = false) : NoError s := by
  obtain ⟨iff, clear, -⟩ := h
  exact ⟨err, by simpa [err] using iff, clear err⟩

theorem errorAgrees_enterError (s : State) {e : Raise} (h : e.cause ≠ .none) : Spec.ErrorAgrees (s.enterError e) := by
  simp [Spec.ErrorAgrees, h]

/-- A completed rule records no error, and CLRERR's clears what was there. -/
theorem Effect.noError {s t : State} {i : Instr} (h : Effect s i t) (hs : NoError s ∨ i = .clrerr) : NoError t := by
  cases h with
  | clrerr => exact ⟨rfl, rfl, rfl, rfl⟩
  | encode => simpa [NoError] using hs
  | _ => exact hs.resolve_right nofun

/-! ### The tables (R106) -/

theorem Effect.tablesAgree {s t : State} {i : Instr} (h : Effect s i t) (hs : Spec.TablesAgree s) : Spec.TablesAgree t := by
  cases h with
  | gfbuild => exact fun _ => tablesBuilt_build _ _
  | encode => simpa [Spec.TablesAgree] using hs
  | _ => exact hs

/-! ### The bit stream (R31, R42, R150) -/

theorem take_leading {α : Type} {n a b : Nat} (x : Vector α n) (h : a ≤ b) : (leading x b).take a = leading x a := by
  rw [leading, leading, List.take_take, Nat.min_eq_left h]

/-- A run of writes keeps the entries below it. -/
theorem leading_writeRun_below {α : Type} [Inhabited α] {n base len : Nat} (x : Vector α n) (vs : List α) (hb : len ≤ base)
    (hn : len ≤ n) : leading (writeRun x base vs) len = leading x len :=
  leading_congr hn hn fun _ hk => entry_writeRun_outside x base vs _ (.inl (by omega))

theorem take_raw (x : EncodeInput) : x.raw.take 4 = Config.modeByte := rfl

theorem take_padded (x : EncodeInput) : x.padded.take 4 = Config.modeByte := by
  obtain ⟨rest, append⟩ := isPrefix_pad x.raw Config.totalBits
  rw [EncodeInput.padded, ← append, List.take_append_of_le_length (by simp [EncodeInput.raw, length_rawBits]; omega), take_raw]

theorem Effect.streamAgrees {s t : State} {i : Instr} (h : Effect s i t) (hs : Spec.StreamAgrees s) : Spec.StreamAgrees t := by
  cases h with
  | bsenc =>
    have len := (withRaw_blen s).trans (length_raw s)
    refine ⟨nofun, fun _ => ⟨s.plen.toNat, by omega, len⟩, nofun, fun _ => ?_⟩
    rw [← take_leading _ (show 4 ≤ (withRaw s).blen.toNat by omega)]
    exact (congrArg _ (bitOperand_withRaw s)).trans (take_raw _)
  | bspad raw le =>
    obtain ⟨-, len, -, mode⟩ := hs
    obtain ⟨n, -, hn⟩ := len raw
    exact ⟨nofun, nofun, fun _ => rfl, fun _ =>
      (leading_writeRun_below _ _ (by omega) (by decide)).trans (mode (by rw [raw]; nofun))⟩
  | encode _ _ le =>
    refine ⟨nofun, nofun, fun _ => rfl, fun _ => ?_⟩
    obtain ⟨bs, -⟩ := encoded_files le
    rw [← take_leading _ (show 4 ≤ 152 by decide), bs, take_padded]
  | _ => exact hs

/-! ### The generator (R31, R125, R126) -/

theorem Effect.generatorAgrees {s t : State} {i : Instr} (h : Effect s i t) (tables : Spec.TablesAgree s)
    (hs : Spec.GeneratorAgrees s) : Spec.GeneratorAgrees t := by
  obtain ⟨genlen, eccn, generator⟩ := id hs
  cases h with
  | gfbuild =>
    refine ⟨genlen, eccn, fun present => ⟨rfl, ?_⟩⟩
    obtain ⟨gfv, gen⟩ := generator present
    have built := tablesBuilt_build s.exp s.log
    rw [← genpoly_eq_loop, gfMul_of_tablesBuilt (tables gfv) built,
      genpoly_of_tablesBuilt (tables gfv) built _ (show s.genlen.toNat - 1 ≤ 510 by omega), genpoly_eq_loop] at gen
    exact gen
  | @rsgen n gfv le =>
    have len : (BitVec.ofNat 6 (n + 1)).toNat = n + 1 := by simp; omega
    refine ⟨?_, eccn, fun _ => ⟨gfv, ?_⟩⟩
    · simp; omega
    · rw [genOperand_setGenerator s (length_genpoly _ _ _) (by omega), State.setGenerator_genlen, len, genpoly_eq_loop]; rfl
  | rsenc gfv present le => exact ⟨genlen, by simp; omega, generator⟩
  | encode gfv _ le =>
    obtain ⟨-, -, gen, -⟩ := encoded_files le
    refine ⟨by simp, by simp, fun _ => ⟨(encoded_gfv s).trans gfv, ?_⟩⟩
    rw [genOperand, encoded_genlen, encoded_exp, encoded_log, ← genpoly_eq_loop]
    exact gen.trans (encodeInput_generator s)
  | _ => exact hs

/-! ### The matrix (R40, R43) -/

theorem matrixAgrees_setMatrix (s : State) {mx : Vector Cell 441} {n : Nat} {st : BitVec 3} (h : FitsStage n mx)
    (stage : st.toNat = n) : Spec.MatrixAgrees (s.setMatrix mx st) := by
  subst stage; exact fun _ => h

/-- At a stage after 0 the invariant says that the matrix fits it. -/
theorem fitsStage_of_mxs {s : State} {n : Nat} {st : BitVec 3} (hs : Spec.MatrixAgrees s) (hm : s.mxs = st) (stage : st.toNat = n)
    (h : 1 ≤ n) : FitsStage n s.mx := by
  subst hm stage; exact hs h

theorem Effect.matrixAgrees {s t : State} {i : Instr} (h : Effect s i t) (hs : Spec.MatrixAgrees s) : Spec.MatrixAgrees t := by
  cases h with
  | mxinit => exact matrixAgrees_setMatrix s fitsStage_clear rfl
  | mxfind stage => exact matrixAgrees_setMatrix s (fitsStage_find (fitsStage_of_mxs hs stage rfl (by decide))) rfl
  | mxtime stage => exact matrixAgrees_setMatrix s (fitsStage_time (fitsStage_of_mxs hs stage rfl (by decide))) rfl
  | mxfrsv stage => exact matrixAgrees_setMatrix s (fitsStage_reserve (fitsStage_of_mxs hs stage rfl (by decide))) rfl
  | mxplace stage => exact matrixAgrees_setMatrix s (fitsStage_place _ (fitsStage_of_mxs hs stage rfl (by decide))) rfl
  | mxmask stage => exact matrixAgrees_setMatrix s (fitsStage_mask (fitsStage_of_mxs hs stage rfl (by decide))) rfl
  | mxfmt stage => exact matrixAgrees_setMatrix s (fitsStage_format _ (fitsStage_of_mxs hs stage rfl (by decide))) rfl
  | encode => exact matrixAgrees_setMatrix _ (fitsStage_encoded _) rfl
  | _ => exact hs

/-! ### Every transaction -/

theorem exec_inv {i : Instr} {s t : State} (h : Spec.Inv s) (run : exec i s = .next t) : Spec.Inv t := by
  obtain ⟨error, tables, stream, generator, matrix⟩ := id h
  obtain ⟨-, -, rfl⟩ | ⟨accepted, u, effect, rfl⟩ | ⟨e, u, cause, rfl | ⟨-, effect⟩, rfl⟩ := exec_cases run
  · exact h
  · have clear : NoError (s.setDone false) ∨ i = .clrerr :=
      accepted.imp_left fun none => noError_of_errorAgrees (s := s) error none
    exact ⟨errorAgrees_of_noError (effect.noError clear), effect.tablesAgree tables, effect.streamAgrees stream,
      effect.generatorAgrees tables generator, effect.matrixAgrees matrix⟩
  · exact ⟨errorAgrees_enterError _ cause, tables, stream, generator, matrix⟩
  · exact ⟨errorAgrees_enterError _ cause, effect.tablesAgree tables, effect.streamAgrees stream,
      effect.generatorAgrees tables generator, effect.matrixAgrees matrix⟩

theorem execWord_inv {w : Word} {s t : State} (h : Spec.Inv s) (run : execWord w s = .next t) : Spec.Inv t := by
  obtain ⟨i, -, command⟩ | rfl | rfl := execWord_cases run
  · exact exec_inv h command
  · exact h
  · exact ⟨errorAgrees_enterError _ nofun, h.tables, h.stream, h.generator, h.matrix⟩

/-- A host write reaches no field of the invariant but DONE, which it can only clear (R25, R64, R65). -/
theorem writeLocation_inv {s : State} (h : Spec.Inv s) (v : Word) (l : Location) : Spec.Inv (writeLocation s v l) := by
  obtain ⟨error, tables, stream, generator, matrix⟩ := id h
  cases l with
  | reg r =>
    cases r with
    | status =>
      obtain ⟨iff, clear, apart⟩ := error
      exact ⟨⟨iff, clear, fun ⟨done, err⟩ => apart ⟨Bool.and_elim_left done, err⟩⟩, tables, stream, generator, matrix⟩
    | _ => exact ⟨error, tables, stream, generator, matrix⟩
  | _ => exact ⟨error, tables, stream, generator, matrix⟩

theorem afterReset_inv (epoch : Nat) : Spec.Inv (State.afterReset epoch) where
  error := errorAgrees_of_noError ⟨rfl, rfl, rfl, rfl⟩
  tables := nofun
  stream := ⟨fun _ => rfl, nofun, nofun, fun h => absurd rfl h⟩
  generator := ⟨Nat.zero_le _, Nat.zero_le _, nofun⟩
  matrix := nofun

theorem perform_inv {tr : Transaction} {s t : State} (h : Spec.Inv s) (run : perform tr s = .next t) : Spec.Inv t := by
  cases tr with
  | read a => cases run; exact ⟨h.error, h.tables, h.stream, h.generator, h.matrix⟩
  | reset =>
    cases run
    obtain ⟨error, tables, stream, generator, matrix⟩ := afterReset_inv (s.resets + 1)
    exact ⟨error, tables, stream, generator, matrix⟩
  | write a v =>
    by_cases cmd : a = cmdAddress
    · subst cmd; exact execWord_inv h ((hostWrite_cmd v s).symm.trans run)
    · cases (hostWrite_other cmd v s).symm.trans run
      exact writeLocation_inv h v (locate a)

end Sys2Proof.Machine

namespace Sys2Proof.Proofs

open Sys2Proof.Machine

/-- Settles O57: a step is idle or performs one transaction, and each kind of transaction keeps the five parts of the invariant. -/
theorem everyStepKeepsTheInvariant : Obligations.EveryStepKeepsTheInvariant := by
  unfold Obligations.EveryStepKeepsTheInvariant
  intro s t h run
  cases script : s.script with
  | nil => cases (step_nil script).symm.trans run; exact h
  | cons tr rest =>
    have taken : Spec.Inv (s.setScript rest) := ⟨h.error, h.tables, h.stream, h.generator, h.matrix⟩
    exact perform_inv taken ((step_cons script).symm.trans run)

end Sys2Proof.Proofs
end

section
/-! PROOFS. What the host reads: every mapped location at its address, every field at its bits (R21 to R38, R62, R63). -/

namespace Sys2Proof.Machine

/-! ### The address of a location names it (R62) -/

theorem address_lt (l : Location) : l.address < 2 ^ 16 := by
  cases l with
  | reg r => cases r <;> decide
  | unmapped => decide
  | _ k => simp only [Location.address]; omega

theorem locate_address {l : Location} (h : l ≠ .unmapped) : locate (BitVec.ofNat 16 l.address) = l := by
  have ha : (BitVec.ofNat 16 l.address).toNat = l.address := Nat.mod_eq_of_lt (address_lt l)
  cases l with
  | unmapped => exact absurd rfl h
  | reg r => cases r <;> rfl
  | _ k =>
    simp only [Location.address] at ha ⊢
    simp only [locate, ha]
    simp (disch := omega) only [if_neg, dif_neg, dif_pos, Nat.add_sub_cancel_left]

theorem memRead_address (s : State) {l : Location} (h : l ≠ .unmapped) :
    memRead s (BitVec.ofNat 16 l.address) = readLocation s l := by rw [memRead, locate_address h]

theorem locate_of_unmapped {a : Word} (h : Spec.unmapped a.toNat = true) : locate a = .unmapped := by
  have ha := of_decide_eq_true h
  simp (disch := omega) only [locate, if_neg, dif_neg]

/-- An entry is read zero-extended (R63). -/
theorem toNat_memRead_entry {n w k : Nat} {x : Vector (BitVec w) n} {s : State} {a : Word} (hw : w ≤ 16) (hk : k < n)
    (h : memRead s a = x[k].setWidth 16) : (memRead s a).toNat = (entry x k).toNat := by
  rw [h, entry_eq_getElem x k hk, BitVec.toNat_setWidth_of_le hw]

/-- A register is read zero-extended (R63). -/
theorem toNat_memRead_reg {w : Nat} {v : BitVec w} {s : State} {a : Word} (hw : w ≤ 16) (h : memRead s a = v.setWidth 16) :
    (memRead s a).toNat = v.toNat := by rw [h, BitVec.toNat_setWidth_of_le hw]

/-! ### The fields of a word (R24, R25, R27, R38) -/

theorem bit_le (b : Bool) : bit b ≤ 1 := by cases b <;> decide

/-- The field of one bit at bit `i` of a word given as a number. -/
theorem getLsbD_word {n i : Nat} (b : Bool) (hi : i < 16) (h : n / 2 ^ i % 2 = bit b) :
    (BitVec.ofNat 16 n : Word).getLsbD i = b := by
  rw [BitVec.getLsbD_ofNat, Nat.testBit_eq_decide_div_mod_eq, h]
  cases b <;> simp [bit, hi]

/-- The field of width `w` at bit `i` of a word given as a number. -/
theorem extractLsb'_word {n i w : Nat} (v : BitVec w) (hn : n < 65536) (h : n / 2 ^ i % 2 ^ w = v.toNat) :
    (BitVec.ofNat 16 n : Word).extractLsb' i w = v := by
  refine BitVec.eq_of_toNat_eq ?_
  rw [BitVec.extractLsb'_toNat, BitVec.toNat_ofNat, Nat.mod_eq_of_lt hn, Nat.shiftRight_eq_div_pow, h]

theorem BitState.code_le (b : BitState) : b.code ≤ 2 := by cases b <;> decide

theorem Cause.code_le (c : Cause) : c.code ≤ 6 := by cases c <;> decide

/-- The fields of STATUS (R25). -/
theorem statusWord_fields (s : State) :
    (statusWord s).getLsbD 0 = false ∧ (statusWord s).getLsbD 1 = s.done ∧ (statusWord s).getLsbD 2 = s.err ∧
      (statusWord s).getLsbD 3 = s.gfv ∧ (statusWord s).extractLsb' 4 2 = BitVec.ofNat 2 s.bsst.code ∧
      (statusWord s).extractLsb' 6 3 = s.mxs ∧ (statusWord s).extractLsb' 9 7 = 0 := by
  have done := bit_le s.done
  have err := bit_le s.err
  have gfv := bit_le s.gfv
  have bsst := s.bsst.code_le
  have mxs := s.mxs.isLt
  have clear : bit false = 0 := rfl
  unfold statusWord
  refine ⟨getLsbD_word _ (by decide) ?_, getLsbD_word _ (by decide) ?_, getLsbD_word _ (by decide) ?_,
    getLsbD_word _ (by decide) ?_, extractLsb'_word _ ?_ ?_, extractLsb'_word _ ?_ ?_, extractLsb'_word _ ?_ ?_⟩ <;> bv_omega

/-- The fields of CTRL (R24). -/
theorem ctrlWord_fields (s : State) :
    (ctrlWord s).getLsbD 0 = s.die ∧ (ctrlWord s).getLsbD 1 = s.eie ∧ (ctrlWord s).extractLsb' 2 14 = 0 := by
  have die := bit_le s.die
  have eie := bit_le s.eie
  unfold ctrlWord
  refine ⟨getLsbD_word _ (by decide) ?_, getLsbD_word _ (by decide) ?_, extractLsb'_word _ ?_ ?_⟩ <;> bv_omega

/-- The fields of ERR (R27). -/
theorem errWord_fields (s : State) :
    (errWord s).extractLsb' 0 4 = BitVec.ofNat 4 s.cause.code ∧ (errWord s).extractLsb' 4 4 = 0 ∧
      (errWord s).extractLsb' 8 8 = s.stage := by
  have cause := s.cause.code_le
  have stage := s.stage.isLt
  unfold errWord
  refine ⟨extractLsb'_word _ ?_ ?_, extractLsb'_word _ ?_ ?_, extractLsb'_word _ ?_ ?_⟩ <;> bv_omega

/-- The fields of an MX entry (R38). -/
theorem cellWord_fields (x : Cell) :
    (cellWord x).getLsbD 0 = x.v ∧ (cellWord x).getLsbD 1 = x.r ∧ (cellWord x).getLsbD 2 = x.d ∧
      (cellWord x).extractLsb' 3 13 = 0 := by
  have v := bit_le x.v
  have r := bit_le x.r
  have d := bit_le x.d
  unfold cellWord
  refine ⟨getLsbD_word _ (by decide) ?_, getLsbD_word _ (by decide) ?_, getLsbD_word _ (by decide) ?_,
    extractLsb'_word _ ?_ ?_⟩ <;> bv_omega

end Sys2Proof.Machine

namespace Sys2Proof.Proofs

open Sys2Proof.Machine

/-- Settles O13: the address map takes the address of every mapped location back to it, and the unmapped ranges to none. -/
theorem addressMapReads : Obligations.AddressMapReads := by
  unfold Obligations.AddressMapReads
  intro s
  refine ⟨⟨rfl, rfl, rfl, rfl, rfl, rfl, rfl⟩, ⟨rfl, rfl, rfl⟩, ?registers,
    fun k hk => toNat_memRead_entry (by decide) hk (memRead_address s (l := .exp ⟨k, hk⟩) nofun),
    fun k hk => toNat_memRead_entry (by decide) hk (memRead_address s (l := .log ⟨k, hk⟩) nofun),
    fun k hk => toNat_memRead_entry (by decide) hk (memRead_address s (l := .pay ⟨k, hk⟩) nofun),
    fun k hk => toNat_memRead_entry (by decide) hk (memRead_address s (l := .dcw ⟨k, hk⟩) nofun),
    fun k hk => toNat_memRead_entry (by decide) hk (memRead_address s (l := .ecc ⟨k, hk⟩) nofun),
    fun k hk => toNat_memRead_entry (by decide) hk (memRead_address s (l := .gen ⟨k, hk⟩) nofun),
    fun k hk => toNat_memRead_entry (by decide) hk (memRead_address s (l := .pa ⟨k, hk⟩) nofun),
    fun k hk => toNat_memRead_entry (by decide) hk (memRead_address s (l := .pb ⟨k, hk⟩) nofun),
    fun k hk => toNat_memRead_entry (by decide) hk (memRead_address s (l := .pr ⟨k, hk⟩) nofun),
    fun r c hr hc => ?cells, fun k hk => ?bits, fun a ha => ?unmapped⟩
  case registers =>
    refine ⟨?_, ?_, ?_, ?_, ?_, ?_, ?_, ?_, ?_, ?_, ?_⟩ <;> exact toNat_memRead_reg (by decide) rfl
  case cells =>
    have hk := cellIndex_lt hr hc
    rw [Spec.cellAt, entry_eq_getElem _ _ hk, Nat.add_assoc]
    exact memRead_address s (l := .mx ⟨_, hk⟩) nofun
  case bits =>
    have read : memRead s (BitVec.ofNat 16 (0x1000 + k)) = BitVec.ofNat 16 (bit s.bs[k]) :=
      memRead_address s (l := .bs ⟨k, hk⟩) nofun
    rw [entry_eq_getElem _ _ hk, read]
    exact Nat.mod_eq_of_lt (Nat.lt_of_le_of_lt (bit_le _) (by decide))
  case unmapped => rw [memRead, locate_of_unmapped ha]; rfl

/-- Settles O14: each word is the sum of its fields at their places. -/
theorem statusFieldsAsRead : Obligations.StatusFieldsAsRead := by
  unfold Obligations.StatusFieldsAsRead
  intro s
  have status : memRead s 0x0005 = statusWord s := rfl
  have ctrl : memRead s 0x0004 = ctrlWord s := rfl
  have error : memRead s 0x0007 = errWord s := rfl
  rw [status, ctrl, error]
  obtain ⟨busy, done, err, gfv, bsst, mxs, high⟩ := statusWord_fields s
  obtain ⟨cause, gap, stage⟩ := errWord_fields s
  refine ⟨⟨busy, done, err, gfv, ?_, mxs, high⟩, ctrlWord_fields s, ⟨?_, gap, stage⟩, ?_, ?_, cellWord_fields⟩
  · rw [bsst]
    exact Nat.mod_eq_of_lt (Nat.lt_of_le_of_lt s.bsst.code_le (by decide))
  · rw [cause]
    exact Nat.mod_eq_of_lt (Nat.lt_of_le_of_lt s.cause.code_le (by decide))
  · rw [bsst]
    refine ⟨?_, ?_, ?_⟩ <;> (intro state; rw [state]; rfl)
  · rw [cause]
    refine ⟨?_, ?_, ?_, ?_, ?_, ?_, ?_⟩ <;> (intro state; rw [state]; rfl)

end Sys2Proof.Proofs
end

section
/-! PROOFS. ENCODE completes for every payload of at most 17 bytes, and what it leaves in the files (R42, R202). -/

namespace Sys2Proof.Machine

theorem length_padded {s : State} (h : (encodeInput s).raw.length ≤ Config.totalBits) : (encodeInput s).padded.length = 152 :=
  length_pad rfl h

/-- A payload of bytes that fits the capacity has no failure (R202). -/
theorem failure_eq_none {s : State} (len : s.plen.toNat ≤ 17) (bytes : ∀ i, i < s.plen.toNat → (entry s.pay i).toNat ≤ 255) :
    (encodeInput s).failure = none := by
  have representable : firstUnrepresentable (encodeInput s).payload = none := by
    refine List.findIdx?_eq_none_iff.2 fun p hp => ?_
    obtain ⟨i, hi, rfl⟩ := List.getElem_of_mem (l := payOperand s) hp
    have below := bytes i (length_payOperand s ▸ hi)
    rw [show (payOperand s)[i] = entry s.pay i from getElem_leading _ _ _ hi]
    simpa using below
  have fits : (encodeInput s).raw.length ≤ Config.totalBits := by
    rw [length_raw]; exact (by omega : 12 + 8 * s.plen.toNat ≤ 152)
  simp only [EncodeInput.failure, representable, if_pos fits]

/-- A completed ENCODE keeps the entries past what it writes (R73). -/
theorem encoded_kept {s : State} (h : (encodeInput s).raw.length ≤ Config.totalBits) :
    (∀ k, 152 ≤ k → entry (encoded s).bs k = entry s.bs k) ∧ (∀ k, 19 ≤ k → entry (encoded s).dcw k = entry s.dcw k) ∧
      (∀ k, 8 ≤ k → entry (encoded s).gen k = entry s.gen k) ∧ (∀ k, 7 ≤ k → entry (encoded s).ecc k = entry s.ecc k) := by
  have padded := length_padded h
  have fits : (encodeInput s).raw.length ≤ 152 := h
  refine ⟨fun k hk => ?_, fun k hk => ?_, fun k hk => ?_, fun k hk => ?_⟩
  · have pads : entry (encoded s).bs k = entry (withRaw s).bs k :=
      entry_writeRun_outside _ _ _ _ (.inr (by rw [List.length_drop, padded]; omega))
    exact pads.trans (entry_writeRun_outside _ _ _ _ (.inr (by omega)))
  · exact entry_writeRun_outside _ _ _ _ (.inr (by rw [length_data]; omega))
  · exact entry_writeRun_outside _ _ _ _ (.inr (by rw [length_generator]; omega))
  · exact entry_writeRun_outside _ _ _ _ (.inr (by rw [length_ecc]; omega))

/-- In a matrix that fits the last stage every cell is reserved (R42). -/
theorem reserved_of_fitsStage {mx : Vector Cell 441} (h : FitsStage 7 mx) {r c : Nat} (hr : r < 21) (hc : c < 21) :
    (Spec.cellAt mx r c).r = true := by
  have fits : ∀ m ≤ 6, ∀ v r d, Spec.cellFits 7 m ⟨v, r, d⟩ = true → r = true := by decide
  exact fits _ (mark_le r hr c hc) _ _ _ (h r c hr hc)

end Sys2Proof.Machine

namespace Sys2Proof.Proofs

open Sys2Proof.Machine

/-- Settles O46: such a payload has no failure, so ENCODE leaves the files of its inputs; the matrix fits the last stage. -/
theorem encodeCompletes : Obligations.EncodeCompletes := by
  unfold Obligations.EncodeCompletes
  intro s err gfv len bytes
  obtain ⟨fits, run⟩ := exec_encode_completes err gfv (failure_eq_none len bytes)
  obtain ⟨bs, dcw, gen, ecc, mx⟩ := encoded_files (s := s.setDone false) fits
  refine ⟨(encoded (s.setDone false)).bs, (encoded (s.setDone false)).dcw, (encoded (s.setDone false)).gen,
    (encoded (s.setDone false)).ecc, (encoded (s.setDone false)).mx, run, ?_, ?_, ?_, ?_, fun r c hr hc => ?_,
    encoded_kept (s := s.setDone false) fits⟩
  · rw [bs, ← pad_eq_loop]; rfl
  · rw [dcw, bs]
    exact flatMap_splitCodewords (length_padded (s := s.setDone false) fits)
  · rw [gen, encodeInput_generator, ← genpoly_eq_loop]; rfl
  · rw [ecc, dcw, gen, ← rsRemainder_eq_loop]; rfl
  · exact reserved_of_fitsStage (mx ▸ fitsStage_encoded _) hr hc

end Sys2Proof.Proofs
end

section
/-! PROOFS. The transactions that run no command: host reads, and the words ignored while an error is pending (R63, R81, R232). -/

namespace Sys2Proof.Machine

/-- While an error is pending every command but CLRERR is ignored (R81, R232). -/
theorem exec_ignored {i : Instr} {s : State} (pending : s.err = true) (other : i ≠ .clrerr) : exec i s = .next s := by
  rw [exec_eq_runCommand, beq_eq_false_iff_ne.2 other, runCommand_ignored pending]

/-- While an error is pending every word but CLRERR's is ignored, the illegal ones too (R81, R232). -/
theorem execWord_ignored {w : Word} {s : State} (pending : s.err = true) (other : w ≠ encode .clrerr) :
    execWord w s = .next s := by
  cases decoded : decode w with
  | ok i =>
    rw [execWord_decoded decoded]
    exact exec_ignored pending fun clrerr => other (clrerr ▸ (encode_of_decode decoded).symm)
  | error e => rw [execWord_rejected decoded, execIllegal, runCommand_ignored pending]

/-- CLRERR is accepted in every state (R81, R201). -/
theorem exec_clrerr (s : State) : exec .clrerr s = .next ((s.setDone false).clearError.setDone true) :=
  (exec_eq_runCommand .clrerr s).trans (runCommand_done (body := bodyClrerr) (.inr rfl) rfl)

end Sys2Proof.Machine

namespace Sys2Proof.Proofs

open Sys2Proof.Machine

/-- Settles O4: with an error pending a word other than CLRERR's is ignored, and reads and other writes run no command. -/
theorem pendingErrorIgnoresEveryOtherWord : Obligations.PendingErrorIgnoresEveryOtherWord := by
  unfold Obligations.PendingErrorIgnoresEveryOtherWord
  intro s pending
  refine ⟨fun w other => execWord_ignored pending other, fun i other => exec_ignored pending other,
    fun w rest script other => ?_, ?_, fun a v other => hostWrite_other other v s, fun a => perform_read a s⟩
  · rw [step_command script]
    exact execWord_ignored (s := s.setScript rest) pending other
  · rw [execWord_decoded (i := .clrerr) rfl]
    exact exec_clrerr s

/-- Settles O11: the step performs the read, which hands over the datum of the state it was taken in. -/
theorem hostReadChangesNothing : Obligations.HostReadChangesNothing := by
  unfold Obligations.HostReadChangesNothing
  intro s a rest script
  rw [step_cons script, perform_read, memRead_setScript]
  rfl

end Sys2Proof.Proofs
end

section
/-! PROOFS. The frames of the commands (R73): what each update of the state can make a location read, hence what each rule and each
command leaves unchanged. -/

namespace Sys2Proof.Machine

/-! ### The locations an update leaves alone -/

/-- Every location but STATUS reads in `t` what it read in `s` unless `w` holds of its address, and the model's own fields are the
same. -/
structure SameBut (w : Nat → Bool) (s t : State) : Prop where
  read : ∀ l : Location, l ≠ .reg .status → w l.address = false → readLocation t l = readLocation s l
  script : t.script = s.script
  returned : t.returned = s.returned
  resets : t.resets = s.resets

theorem SameBut.refl (w : Nat → Bool) (s : State) : SameBut w s s := ⟨fun _ _ _ => rfl, rfl, rfl, rfl⟩

theorem SameBut.trans {w : Nat → Bool} {s t u : State} (h : SameBut w s t) (h' : SameBut w t u) : SameBut w s u where
  read l hs hw := (h'.read l hs hw).trans (h.read l hs hw)
  script := h'.script.trans h.script
  returned := h'.returned.trans h.returned
  resets := h'.resets.trans h.resets

theorem SameBut.mono {w w' : Nat → Bool} {s t : State} (h : SameBut w s t) (sub : ∀ a, w' a = false → w a = false) :
    SameBut w' s t where
  read l hs hw := h.read l hs (sub _ hw)
  script := h.script
  returned := h.returned
  resets := h.resets

/-- What a host reads at an address that `w` does not hold of. -/
theorem SameBut.memRead_eq {w : Nat → Bool} {s t : State} (h : SameBut w s t) {a : Word} (status : a ≠ 0x0005)
    (hw : w a.toNat = false) : memRead t a = memRead s a := by
  by_cases mapped : locate a = .unmapped
  · rw [memRead, memRead, mapped]; rfl
  · exact h.read _ (fun hl => status (locate_inj (b := 0x0005) hl mapped)) (by rwa [address_locate mapped])

/-! ### Files: entries and addresses -/

theorem getElem_of_entry {α : Type} [Inhabited α] {n : Nat} {x y : Vector α n} {k : Fin n} (h : entry x k = entry y k) :
    x[k] = y[k] := by
  rwa [entry_eq_getElem _ _ k.isLt, entry_eq_getElem _ _ k.isLt] at h

theorem inRun_eq_false {a base len : Nat} : Spec.inRun a base len = false ↔ a < base ∨ base + len ≤ a := by
  simp only [Spec.inRun, decide_eq_false_iff_not]
  omega

/-- A run of writes keeps an entry whose address is outside the run. -/
theorem getElem_writeRun_outside {α : Type} [Inhabited α] {n file base len : Nat} {x : Vector α n} {vs : List α} {k : Fin n}
    (len_le : vs.length ≤ len) (outside : Spec.inRun (file + k) (file + base) len = false) : (writeRun x base vs)[k] = x[k] := by
  have := inRun_eq_false.1 outside
  exact getElem_of_entry (entry_writeRun_outside _ _ _ _ (by omega))

/-- A cell whose address is not among those of the cells `p` holds of. -/
theorem of_inCells_eq_false {k : Fin 441} {p : Nat → Bool} (h : Spec.inCells (0x0800 + k) p = false) : p k = false := by
  have inside : Spec.inRun (0x0800 + k) 0x0800 441 = true := decide_eq_true (by omega)
  rwa [Spec.inCells, inside, Bool.true_and, Nat.add_sub_cancel_left] at h

/-! ### The updates -/

section

variable (s : State)

theorem sameBut_setDone (w : Nat → Bool) (b : Bool) : SameBut w s (s.setDone b) := by
  refine ⟨fun l status _ => ?_, rfl, rfl, rfl⟩
  cases l with
  | reg r =>
    cases r with
    | status => exact absurd rfl status
    | _ => rfl
  | _ => rfl

/-- The error fields are read in STATUS, ERR and INFO only (R25, R27, R28). -/
theorem sameBut_errorFields (done err : Bool) (cause : Cause) (stage : Byte) (info : Word) :
    SameBut (fun a => a == 0x0007 || a == 0x0008) s
      { s with done := done, err := err, cause := cause, stage := stage, info := info } := by
  refine ⟨fun l status hw => ?_, rfl, rfl, rfl⟩
  cases l with
  | reg r =>
    cases r with
    | status => exact absurd rfl status
    | err | info => exact absurd hw (by decide)
    | _ => rfl
  | _ => rfl

/-- GFBUILD keeps EXP[510], EXP[511] and LOG[0] (R101). -/
theorem sameBut_setTables : SameBut (Spec.writesTo .gfbuild s) s (s.setTables (buildExp s.exp) (buildLog s.log)) := by
  refine ⟨fun l status hw => ?_, rfl, rfl, rfl⟩
  obtain ⟨exp, log⟩ := Bool.or_eq_false_iff.1 hw
  cases l with
  | exp k =>
    have last : 510 ≤ k.val := by
      have : 0x0200 + k.val < 0x0200 ∨ 0x0200 + 510 ≤ 0x0200 + k.val := inRun_eq_false.1 exp
      omega
    refine congrArg (BitVec.setWidth 16) (getElem_of_entry ?_)
    exact (entry_buildExp _ _ k.isLt).trans ((if_neg (by omega)).trans (if_neg (by omega)))
  | log k =>
    have first : k.val = 0 := by
      have : 0x0400 + k.val < 0x0401 ∨ 0x0401 + 255 ≤ 0x0400 + k.val := inRun_eq_false.1 log
      omega
    refine congrArg (BitVec.setWidth 16) (getElem_of_entry ?_)
    rw [first]
    exact entry_buildLog_zero s.log
  | reg r =>
    cases r with
    | status => exact absurd rfl status
    | _ => rfl
  | _ => rfl

theorem sameBut_setProduct (r : Byte) : SameBut (fun a => a == 0x000C) s (s.setProduct r) := by
  refine ⟨fun l _ hw => ?_, rfl, rfl, rfl⟩
  cases l with
  | reg r =>
    cases r with
    | gfr => exact absurd hw (by decide)
    | _ => rfl
  | _ => rfl

variable {s}

theorem sameBut_setResult {r : List Byte} {len : Nat} (n : Nat) (len_le : r.length ≤ len) :
    SameBut (fun a => Spec.inRun a 0x06C0 len || a == 0x0014) s (s.setResult r n) := by
  refine ⟨fun l _ hw => ?_, rfl, rfl, rfl⟩
  obtain ⟨outside, other⟩ := Bool.or_eq_false_iff.1 hw
  cases l with
  | pr k => exact congrArg (BitVec.setWidth 16) (getElem_writeRun_outside len_le outside)
  | reg r =>
    cases r with
    | prlen => exact absurd other (by decide)
    | _ => rfl
  | _ => rfl

theorem sameBut_setGenerator {g : List Byte} {len : Nat} (n : Nat) (len_le : g.length ≤ len) :
    SameBut (fun a => Spec.inRun a 0x0640 len || a == 0x0011) s (s.setGenerator g n) := by
  refine ⟨fun l _ hw => ?_, rfl, rfl, rfl⟩
  obtain ⟨outside, other⟩ := Bool.or_eq_false_iff.1 hw
  cases l with
  | gen k => exact congrArg (BitVec.setWidth 16) (getElem_writeRun_outside len_le outside)
  | reg r =>
    cases r with
    | genlen => exact absurd other (by decide)
    | _ => rfl
  | _ => rfl

theorem sameBut_setEcc {r : List Byte} {len : Nat} (n : Nat) (len_le : r.length ≤ len) :
    SameBut (fun a => Spec.inRun a 0x0620 len || a == 0x0010) s (s.setEcc r n) := by
  refine ⟨fun l _ hw => ?_, rfl, rfl, rfl⟩
  obtain ⟨outside, other⟩ := Bool.or_eq_false_iff.1 hw
  cases l with
  | ecc k => exact congrArg (BitVec.setWidth 16) (getElem_writeRun_outside len_le outside)
  | reg r =>
    cases r with
    | eccn => exact absurd other (by decide)
    | _ => rfl
  | _ => rfl

theorem sameBut_setData {d : List Byte} {len : Nat} (n : Nat) (len_le : d.length ≤ len) :
    SameBut (fun a => Spec.inRun a 0x0600 len || a == 0x000F) s (s.setData d n) := by
  refine ⟨fun l _ hw => ?_, rfl, rfl, rfl⟩
  obtain ⟨outside, other⟩ := Bool.or_eq_false_iff.1 hw
  cases l with
  | dcw k => exact congrArg (BitVec.setWidth 16) (getElem_writeRun_outside len_le outside)
  | reg r =>
    cases r with
    | dcwn => exact absurd other (by decide)
    | _ => rfl
  | _ => rfl

theorem sameBut_setBits {b : List Bool} {len : Nat} (base n : Nat) (state : BitState) (len_le : b.length ≤ len) :
    SameBut (fun a => Spec.inRun a (0x1000 + base) len || a == 0x000E) s (s.setBits base b n state) := by
  refine ⟨fun l status hw => ?_, rfl, rfl, rfl⟩
  obtain ⟨outside, other⟩ := Bool.or_eq_false_iff.1 hw
  cases l with
  | bs k => exact congrArg (fun x => BitVec.ofNat 16 (bit x)) (getElem_writeRun_outside len_le outside)
  | reg r =>
    cases r with
    | status => exact absurd rfl status
    | blen => exact absurd other (by decide)
    | _ => rfl
  | _ => rfl

theorem sameBut_setMatrix {mx : Vector Cell 441} {p : Nat → Bool} (st : BitVec 3)
    (kept : ∀ k < 441, p k = false → entry mx k = entry s.mx k) :
    SameBut (Spec.inCells · p) s (s.setMatrix mx st) := by
  refine ⟨fun l status hw => ?_, rfl, rfl, rfl⟩
  cases l with
  | mx k => exact congrArg cellWord (getElem_of_entry (kept k k.isLt (of_inCells_eq_false hw)))
  | reg r =>
    cases r with
    | status => exact absurd rfl status
    | _ => rfl
  | _ => rfl

/-- A new matrix changes what the 441 cells read. -/
theorem sameBut_setMatrix_all (mx : Vector Cell 441) (st : BitVec 3) :
    SameBut (Spec.inRun · 0x0800 441) s (s.setMatrix mx st) :=
  (sameBut_setMatrix (p := fun _ => true) st fun _ _ => nofun).mono fun _ h => (Bool.and_true _).trans h

end

/-! ### The rules -/

section

variable (mx : Vector Cell 441) {k : Nat} (hk : k < 441)

include hk

theorem entry_mapCells (f : Nat → Nat → Cell → Cell) : entry (mapCells f mx) k = f (k / 21) (k % 21) (entry mx k) :=
  entry_mapEntries _ _ _ hk

/-- MXFIND writes the cells with marks 1 to 3 (R172). -/
theorem entry_find_kept (h : (Spec.markAt k == 1 || Spec.markAt k == 2 || Spec.markAt k == 3) = false) :
    entry (mapCells findCell mx) k = entry mx k := by
  rw [entry_mapCells mx hk, findCell_eq (by omega) (by omega), if_neg]
  simpa [Spec.markAt, and_assoc] using h

/-- MXTIME writes the cells with marks 4 and 5 (R173). -/
theorem entry_time_kept (h : (Spec.markAt k == 4 || Spec.markAt k == 5) = false) :
    entry (mapCells timeCell mx) k = entry mx k := by
  rw [entry_mapCells mx hk, timeCell_eq (by omega) (by omega), if_neg]
  simpa [Spec.markAt] using h

/-- MXFRSV writes the cells with mark 6 (R174). -/
theorem entry_reserve_kept (h : (Spec.markAt k == 6) = false) : entry (mapCells reserveCell mx) k = entry mx k := by
  rw [entry_mapCells mx hk, reserveCell_eq (by omega) (by omega)]
  exact if_neg (beq_eq_false_iff_ne.1 h)

/-- MXPLACE writes unreserved cells only (R175). -/
theorem entry_place_kept (stream : List Bool) (h : (!(entry mx k).r) = false) :
    entry (placeBits stream mx) k = entry mx k :=
  entry_placeBits_kept stream mx k hk fun free => by simp [((mem_freeCells mx k).1 free).2] at h

/-- MXMASK writes the data cells with an even sum (R176). -/
theorem entry_mask_kept (h : ((entry mx k).d && decide ((k / 21 + k % 21) % 2 = 0)) = false) :
    entry (mapCells maskCell mx) k = entry mx k := by
  rw [entry_mapCells mx hk, maskCell, h]; rfl

/-- MXFMT writes the cells with mark 6 (R177). -/
theorem entry_format_kept (fmt : Word) (h : (Spec.markAt k == 6) = false) :
    entry (mapCells (formatCell fmt) mx) k = entry mx k := by
  obtain ⟨b, written⟩ := formatCell_eq (r := k / 21) (c := k % 21) (by omega) (by omega) (entry mx k) fmt
  rw [entry_mapCells mx hk, written]
  exact if_neg (beq_eq_false_iff_ne.1 h)

end

/-- The remainder has at most GENLEN - 1 entries, also where GENLEN exceeds the file (log 11). -/
theorem length_remainder_le {s : State} (present : 1 ≤ s.genlen.toNat) (mul : Byte → Byte → Byte) (data : List Byte) :
    (rsRemainder mul data (genOperand s)).length ≤ s.genlen.toNat - 1 := by
  have length : (genOperand s).length = min s.genlen.toNat 32 := length_leading _ _
  rw [length_rsRemainder _ _ _ (by omega)]
  omega

/-- ENCODE's "writes" column contains those of its stages: BSENC's, BSPAD's, BSSPLIT's, RSGEN's, RSENC's and the matrix (R73). -/
theorem writesTo_encode {s : State} {a : Nat} (h : Spec.writesTo .encode s a = false) :
    (Spec.inRun a 0x1000 (max (12 + 8 * s.plen.toNat) 152) || a == 0x000E) = false ∧
      (Spec.inRun a 0x0600 19 || a == 0x000F) = false ∧ (Spec.inRun a 0x0640 8 || a == 0x0011) = false ∧
      (Spec.inRun a 0x0620 7 || a == 0x0010) = false ∧ Spec.inRun a 0x0800 441 = false := by
  simp only [Spec.writesTo, Bool.or_eq_false_iff, and_assoc] at h ⊢
  exact h

/-- A run of bits that ends within what ENCODE may write of BS. -/
theorem sameBut_setBits_encode {s t : State} {base : Nat} {b : List Bool} (n : Nat) (state : BitState)
    (within : base + b.length ≤ max (12 + 8 * s.plen.toNat) 152) :
    SameBut (Spec.writesTo .encode s) t (t.setBits base b n state) := by
  refine (sameBut_setBits base n state (Nat.le_refl _)).mono fun a h => ?_
  obtain ⟨outside, other⟩ := Bool.or_eq_false_iff.1 (writesTo_encode h).1
  rw [inRun_eq_false] at outside
  rw [other, Bool.or_false, inRun_eq_false]
  omega

/-- BSENC within ENCODE. -/
theorem sameBut_withRaw (s : State) : SameBut (Spec.writesTo .encode s) s (withRaw s) :=
  sameBut_setBits_encode _ _ (by have := length_raw s; omega)

/-- A completed ENCODE writes what its stages write. -/
theorem sameBut_encoded {s : State} (le : (encodeInput s).raw.length ≤ 152) :
    SameBut (Spec.writesTo .encode s) s (encoded s) := by
  have bspad : SameBut (Spec.writesTo .encode s) (withRaw s) (withPadded s) :=
    sameBut_setBits_encode _ _ (by have := length_padded le; rw [List.length_drop]; omega)
  have bssplit (t : State) : SameBut (Spec.writesTo .encode s) t (t.setData (encodeInput s).data 19) :=
    (sameBut_setData 19 (length_data _).le).mono fun a h => by obtain ⟨-, data, -⟩ := writesTo_encode h; exact data
  have rsgen (t : State) : SameBut (Spec.writesTo .encode s) t (t.setGenerator (encodeInput s).generator 8) :=
    (sameBut_setGenerator 8 (length_generator s).le).mono fun a h => by
      obtain ⟨-, -, gen, -⟩ := writesTo_encode h; exact gen
  have rsenc (t : State) : SameBut (Spec.writesTo .encode s) t (t.setEcc (encodeInput s).ecc 7) :=
    (sameBut_setEcc 7 (length_ecc s).le).mono fun a h => by obtain ⟨-, -, -, ecc, -⟩ := writesTo_encode h; exact ecc
  have matrix (t : State) : SameBut (Spec.writesTo .encode s) t (t.setMatrix (encodeInput s).matrix 7) :=
    (sameBut_setMatrix_all _ _).mono fun a h => by obtain ⟨-, -, -, -, mx⟩ := writesTo_encode h; exact mx
  exact (sameBut_withRaw s).trans (bspad.trans ((bssplit _).trans ((rsgen _).trans ((rsenc _).trans (matrix _)))))

/-- A completed rule, but CLRERR's, writes no location outside its command's "writes" column (R73). -/
theorem Effect.sameBut {s t : State} {i : Instr} (h : Effect s i t) (other : i ≠ .clrerr) :
    SameBut (Spec.writesTo i s) s t := by
  cases h with
  | nop => exact .refl _ s
  | clrerr => exact absurd rfl other
  | gfbuild => exact sameBut_setTables s
  | gfmul => exact sameBut_setProduct s _
  | pmul gfv pa pb =>
    have palen := ((legalLength_iff _).1 pa).2
    have pblen := ((legalLength_iff _).1 pb).2
    exact sameBut_setResult _ (by rw [length_pmul, length_paOperand palen, length_pbOperand pblen])
  | pdiv gfv pa pb le =>
    have palen := ((legalLength_iff _).1 pa).2
    obtain ⟨positive, pblen⟩ := (legalLength_iff _).1 pb
    have lu := length_paOperand palen
    have ld := length_pbOperand pblen
    exact sameBut_setResult _ (by rw [length_pdivrem _ _ _ (by omega) (by omega), ld])
  | rsgen => exact sameBut_setGenerator _ (length_genpoly _ _ _).le
  | rsenc gfv present => exact sameBut_setEcc _ (length_remainder_le present _ _)
  | bsenc => exact sameBut_setBits 0 _ _ (length_raw s).le
  | bspad raw le =>
    have fits : (bitOperand s).length ≤ 152 := (length_leading _ _).trans_le ((Nat.min_le_left _ _).trans le)
    exact sameBut_setBits _ _ _ (by rw [List.length_drop, length_pad rfl fits]; exact Nat.le_refl _)
  | bssplit => exact sameBut_setData _ (length_splitCodewords _ _).le
  | mxinit => exact sameBut_setMatrix_all _ _
  | mxfind => exact (sameBut_setMatrix _ fun _ hk => entry_find_kept _ hk).mono fun _ h => h
  | mxtime => exact (sameBut_setMatrix _ fun _ hk => entry_time_kept _ hk).mono fun _ h => h
  | mxfrsv => exact (sameBut_setMatrix _ fun _ hk => entry_reserve_kept _ hk).mono fun _ h => h
  | mxplace => exact (sameBut_setMatrix _ fun _ hk => entry_place_kept _ hk _).mono fun _ h => h
  | mxmask => exact (sameBut_setMatrix _ fun _ hk => entry_mask_kept _ hk).mono fun _ h => h
  | mxfmt => exact (sameBut_setMatrix _ fun _ hk => entry_format_kept _ hk _).mono fun _ h => h
  | encode _ _ le => exact sameBut_encoded le

/-! ### The commands -/

/-- The "writes" column of `i`, and ERR and INFO for CLRERR or when the command has left an error in `t` (R73). -/
def mayWrite (i : Instr) (s t : State) (a : Nat) : Bool :=
  Spec.writesTo i s a || (decide (i = .clrerr ∨ t.err = true) && (a == 0x0007 || a == 0x0008))

theorem mayWrite_eq_false {i : Instr} {s t : State} {a : Nat} : mayWrite i s t a = false ↔
    Spec.writesTo i s a = false ∧ (i = .clrerr ∨ t.err = true → (a == 0x0007 || a == 0x0008) = false) := by
  simp only [mayWrite, Bool.or_eq_false_iff (x := Spec.writesTo i s a), Bool.and_eq_false_imp, decide_eq_true_eq]

theorem onlyWrites_of_sameBut {i : Instr} {s t : State} (h : SameBut (mayWrite i s t) s t) : Spec.OnlyWrites i s t := by
  refine ⟨fun a status outside errorFields => h.memRead_eq status (mayWrite_eq_false.2 ⟨outside, fun may => ?_⟩),
    h.script, h.returned, h.resets⟩
  obtain ⟨err, info⟩ := errorFields may
  exact Bool.or_eq_false_iff.2 ⟨beq_eq_false_iff_ne.2 fun e => err (BitVec.eq_of_toNat_eq e),
    beq_eq_false_iff_ne.2 fun e => info (BitVec.eq_of_toNat_eq e)⟩

theorem writesTo_setDone (i : Instr) (s : State) (b : Bool) : Spec.writesTo i (s.setDone b) = Spec.writesTo i s := by
  cases i <;> rfl

/-- EVERY COMMAND WRITES WHAT ITS "WRITES" COLUMN SAYS, and CLRERR or an error the error fields beside it (R73, R224). -/
theorem exec_onlyWrites {i : Instr} {s t : State} (h : exec i s = .next t) : Spec.OnlyWrites i s t := by
  refine onlyWrites_of_sameBut ?_
  have accepted := sameBut_setDone s (mayWrite i s t) false
  obtain ⟨-, -, rfl⟩ | ⟨-, u, effect, rfl⟩ | ⟨e, u, -, left, rfl⟩ := exec_cases h
  · exact .refl _ _
  · refine accepted.trans (.trans ?_ (sameBut_setDone u _ true))
    by_cases clrerr : i = .clrerr
    · subst clrerr
      cases effect
      exact (sameBut_errorFields (s.setDone false) _ _ _ _ _).mono fun a h => (mayWrite_eq_false.1 h).2 (.inl rfl)
    · exact (effect.sameBut clrerr).mono fun a h => by rw [writesTo_setDone]; exact (mayWrite_eq_false.1 h).1
  · have raised : SameBut (mayWrite i s (u.enterError e)) u (u.enterError e) :=
      (sameBut_errorFields u _ _ _ _ _).mono fun a h => (mayWrite_eq_false.1 h).2 (.inr rfl)
    refine accepted.trans (.trans ?_ raised)
    obtain rfl | ⟨rfl, effect⟩ := left
    · exact .refl _ _
    · cases effect
      exact (sameBut_withRaw (s.setDone false)).mono fun a h => (mayWrite_eq_false.1 h).1

/-! ### The fields of STATUS and the matrix -/

/-- The commands that write BSST (R73). -/
def writesStream : Instr → Bool
  | .bsenc | .bspad | .encode => true
  | _ => false

/-- The commands that write MX and MXS (R73). -/
def writesMatrix : Instr → Bool
  | .mxinit | .mxfind | .mxtime | .mxfrsv | .mxplace | .mxmask | .mxfmt | .encode => true
  | _ => false

theorem Effect.gfv {s t : State} {i : Instr} (h : Effect s i t) (other : i ≠ .gfbuild) : t.gfv = s.gfv := by
  cases h with
  | gfbuild => exact absurd rfl other
  | encode => exact encoded_gfv s
  | _ => rfl

theorem Effect.bsst {s t : State} {i : Instr} (h : Effect s i t) (other : writesStream i = false) : t.bsst = s.bsst := by
  cases h with
  | bsenc | bspad | encode => cases other
  | _ => rfl

theorem Effect.matrix {s t : State} {i : Instr} (h : Effect s i t) (other : writesMatrix i = false) :
    t.mx = s.mx ∧ t.mxs = s.mxs := by
  cases h with
  | mxinit | mxfind | mxtime | mxfrsv | mxplace | mxmask | mxfmt | encode => cases other
  | _ => exact ⟨rfl, rfl⟩

/-- GFV is GFBUILD's. -/
theorem exec_gfv {i : Instr} {s t : State} (h : exec i s = .next t) (other : i ≠ .gfbuild) : t.gfv = s.gfv := by
  obtain ⟨-, -, rfl⟩ | ⟨-, u, effect, rfl⟩ | ⟨e, u, -, rfl | ⟨-, effect⟩, rfl⟩ := exec_cases h
  · rfl
  · exact effect.gfv other
  · rfl
  · exact effect.gfv nofun

/-- BSST is BSENC's, BSPAD's and ENCODE's. -/
theorem exec_bsst {i : Instr} {s t : State} (h : exec i s = .next t) (other : writesStream i = false) : t.bsst = s.bsst := by
  obtain ⟨-, -, rfl⟩ | ⟨-, u, effect, rfl⟩ | ⟨e, u, -, rfl | ⟨rfl, -⟩, rfl⟩ := exec_cases h
  · rfl
  · exact effect.bsst other
  · rfl
  · cases other

/-- The matrix changes by the effect of a completed rule only (R203, R224). -/
theorem exec_matrix {i : Instr} {s t : State} (h : exec i s = .next t) :
    (t.mx = s.mx ∧ t.mxs = s.mxs) ∨ t.err = false ∧ ∃ u, Effect (s.setDone false) i u ∧ t = u.setDone true := by
  obtain ⟨-, -, rfl⟩ | ⟨accepted, u, effect, rfl⟩ | ⟨e, u, -, rfl | ⟨-, effect⟩, rfl⟩ := exec_cases h
  · exact .inl ⟨rfl, rfl⟩
  · exact .inr ⟨effect.err_of_accepted accepted, u, effect, rfl⟩
  · exact .inl ⟨rfl, rfl⟩
  · exact .inl (effect.matrix rfl)

theorem exec_matrix_kept {i : Instr} {s t : State} (h : exec i s = .next t) (other : writesMatrix i = false ∨ t.err = true) :
    t.mx = s.mx ∧ t.mxs = s.mxs := by
  obtain kept | ⟨completed, u, effect, rfl⟩ := exec_matrix h
  · exact kept
  · exact effect.matrix (other.resolve_right fun failed => nomatch completed.symm.trans failed)

/-- What a command that works cell by cell keeps of every cell, it keeps of the matrix, whether it completes or not. -/
theorem exec_cells_kept {α : Type} {i : Instr} {s t : State} {f : Nat → Nat → Cell → Cell} {g : Cell → α}
    (h : exec i s = .next t) (stage : ∀ {u}, Effect (s.setDone false) i u → u.mx = mapCells f s.mx)
    (kept : ∀ r c x, g (f r c x) = g x) {r c : Nat} (hr : r < 21) (hc : c < 21) :
    g (Spec.cellAt t.mx r c) = g (Spec.cellAt s.mx r c) := by
  obtain ⟨same, -⟩ | ⟨-, u, effect, rfl⟩ := exec_matrix h
  · rw [same]
  · rw [State.setDone_mx, stage effect, cellAt_mapCells f s.mx hr hc, kept]

/-- MXFRSV does not write V (R174). -/
theorem reserveCell_v (r c : Nat) (x : Cell) : (reserveCell r c x).v = x.v := by
  unfold reserveCell; split <;> rfl

/-- MXMASK writes neither R nor D (R176). -/
theorem maskCell_flags (r c : Nat) (x : Cell) : ((maskCell r c x).r, (maskCell r c x).d) = (x.r, x.d) := by
  unfold maskCell; split <;> rfl

/-- MXFMT writes neither R nor D (R177). -/
theorem formatCell_flags (fmt : Word) (r c : Nat) (x : Cell) :
    ((formatCell fmt r c x).r, (formatCell fmt r c x).d) = (x.r, x.d) := by
  unfold formatCell; split <;> rfl

end Sys2Proof.Machine

namespace Sys2Proof.Proofs

open Sys2Proof.Machine

/-- Settles O51: none of the four writes the bit stream or the matrix, and GFBUILD alone GFV. -/
theorem frameOfControlAndGf : Obligations.FrameOfControlAndGf := by
  unfold Obligations.FrameOfControlAndGf
  intro i s t mem run
  have neither : ∀ i ∈ [Instr.nop, .clrerr, .gfbuild, .gfmul], writesStream i = false ∧ writesMatrix i = false := by decide
  obtain ⟨stream, matrix⟩ := neither i mem
  exact ⟨exec_onlyWrites run, exec_bsst run stream, (exec_matrix_kept run (.inl matrix)).2, exec_gfv run⟩

/-- Settles O52: none of the four writes GFV, the bit stream or the matrix. -/
theorem frameOfReedSolomon : Obligations.FrameOfReedSolomon := by
  unfold Obligations.FrameOfReedSolomon
  intro i s t mem run
  have none : i ≠ .gfbuild ∧ writesStream i = false ∧ writesMatrix i = false := by
    obtain rfl | rfl | ⟨n, rfl⟩ | rfl := mem <;> exact ⟨nofun, rfl, rfl⟩
  obtain ⟨tables, stream, matrix⟩ := none
  exact ⟨exec_onlyWrites run, exec_gfv run tables, exec_bsst run stream, (exec_matrix_kept run (.inl matrix)).2⟩

/-- Settles O53: none of the three writes GFV or the matrix, and BSSPLIT does not write the bit stream. -/
theorem frameOfBitStream : Obligations.FrameOfBitStream := by
  unfold Obligations.FrameOfBitStream
  intro i s t mem run
  have neither : ∀ i ∈ [Instr.bsenc, .bspad, .bssplit], i ≠ .gfbuild ∧ writesMatrix i = false := by decide
  obtain ⟨tables, matrix⟩ := neither i mem
  exact ⟨exec_onlyWrites run, exec_gfv run tables, (exec_matrix_kept run (.inl matrix)).2,
    fun bssplit => exec_bsst run (bssplit ▸ rfl)⟩

/-- Settles O54: none of the seven writes GFV or the bit stream; what MXFRSV, MXMASK and MXFMT keep they keep of each cell. -/
theorem frameOfMatrix : Obligations.FrameOfMatrix := by
  unfold Obligations.FrameOfMatrix
  intro i s t mem run
  have neither : ∀ i ∈ [Instr.mxinit, .mxfind, .mxtime, .mxfrsv, .mxplace, .mxmask, .mxfmt],
      i ≠ .gfbuild ∧ writesStream i = false := by decide
  obtain ⟨tables, stream⟩ := neither i mem
  refine ⟨exec_onlyWrites run, exec_gfv run tables, exec_bsst run stream, ?_, ?_⟩
  · rintro rfl r c hr hc
    exact exec_cells_kept run (by rintro _ ⟨⟩; rfl) reserveCell_v hr hc
  · rintro (rfl | rfl) r c hr hc
    · exact Prod.mk.inj (exec_cells_kept (g := fun x => (x.r, x.d)) run (by rintro _ ⟨⟩; rfl) maskCell_flags hr hc)
    · exact Prod.mk.inj (exec_cells_kept (g := fun x => (x.r, x.d)) run (by rintro _ ⟨⟩; rfl) (formatCell_flags s.fmt) hr hc)

/-- Settles O55: ENCODE writes neither GFV nor, when it fails, the matrix. -/
theorem frameOfEncode : Obligations.FrameOfEncode := by
  unfold Obligations.FrameOfEncode
  intro s t run
  exact ⟨exec_onlyWrites run, exec_gfv run nofun, fun failed => exec_matrix_kept run (.inr failed)⟩

end Sys2Proof.Proofs
end

section
/-! PROOFS. The decoder and the encoder are inverse to each other, and the decoder is the match and mask table (R80 to R84). -/

namespace Sys2Proof.Machine

/-! ### Masking a word reads its fields (R80) -/

theorem opcOf_and (w m : Word) : opcOf (w &&& m) = opcOf w &&& opcOf m := BitVec.extractLsb'_and

theorem immOf_and (w m : Word) : immOf (w &&& m) = immOf w &&& immOf m := BitVec.extractLsb'_and

/-- RSGEN's mask 0xFF00 selects by the opcode byte alone (R82). -/
theorem and_ff00_eq_iff (w : Word) : w &&& 0xFF00 = 0x1200 ↔ opcOf w = 0x12 := by
  have opc : opcOf (w &&& 0xFF00) = opcOf w := (opcOf_and w _).trans BitVec.and_allOnes
  have imm : immOf (w &&& 0xFF00) = 0 := (immOf_and w _).trans BitVec.and_zero
  exact ⟨fun h => opc.symm.trans (congrArg opcOf h), fun h => word_eq_of_fields (opc.trans h) imm⟩

/-- The low byte of a word is its immediate, read unsigned (R83). -/
theorem toNat_and_00ff (w : Word) : (w &&& 0x00FF).toNat = (immOf w).toNat := by
  rw [BitVec.toNat_and, immOf, BitVec.extractLsb'_toNat]
  exact Nat.and_two_pow_sub_one_eq_mod w.toNat 8

/-! ### Decoding an encoded command (R82, R83) -/

theorem decode_of_opc_rsgen {w : Word} (opc : opcOf w = 0x12) : decode w = .ok (.rsgen (immOf w).toNat) := if_pos opc

/-- RSGEN is decoded by its opcode alone, its count from the immediate (R83). -/
theorem decode_eq_rsgen_iff {w : Word} {n : Nat} : decode w = .ok (.rsgen n) ↔ opcOf w = 0x12 ∧ n = (immOf w).toNat := by
  constructor
  · intro h
    have opc : opcOf w = 0x12 := encode_of_decode h ▸ (Laws.OpcodeByte.rsgen n).1
    cases h.symm.trans (decode_of_opc_rsgen opc)
    exact ⟨opc, rfl⟩
  · rintro ⟨opc, rfl⟩
    exact decode_of_opc_rsgen opc

theorem wellFormed_of_decode {w : Word} {i : Instr} (h : decode w = .ok i) : i.WellFormed := by
  cases i with
  | rsgen n =>
    obtain ⟨-, rfl⟩ := decode_eq_rsgen_iff.1 h
    exact decide_eq_true (immOf w).isLt
  | _ => rfl

theorem decode_encode {i : Instr} (h : i.WellFormed) : decode (encode i) = .ok i := by
  cases i with
  | rsgen n =>
    have fits : n < 256 := of_decide_eq_true h
    obtain ⟨opc, imm⟩ := Laws.OpcodeByte.rsgen n
    exact decode_eq_rsgen_iff.2 ⟨opc, by rw [imm, BitVec.toNat_ofNat, Nat.mod_eq_of_lt fits]⟩
  | _ => rfl

/-! ### The rows of the opcode table (R82) -/

theorem decode_fixedRow : ∀ row ∈ Spec.fixedRows, decode row.1 = .ok row.2 := by decide

/-- A word decodes to the command of the row that selects it, and to nothing else. -/
theorem decode_eq_ok_iff_row (w : Word) (i : Instr) : decode w = .ok i ↔
    (∃ row ∈ Spec.fixedRows, w &&& 0xFFFF = row.1 ∧ i = row.2) ∨
    (w &&& 0xFF00 = 0x1200 ∧ i = .rsgen (w &&& 0x00FF).toNat) := by
  have full_mask : w &&& 0xFFFF = w := BitVec.and_allOnes
  rw [full_mask, and_ff00_eq_iff, toNat_and_00ff]
  constructor
  · intro h
    cases i with
    | rsgen n => exact .inr ((decode_eq_rsgen_iff.1 h).imp_right (congrArg Instr.rsgen))
    | _ => exact .inl ⟨(w, _), encode_of_decode h ▸ by decide, rfl, rfl⟩
  · rintro (⟨row, mem, rfl, rfl⟩ | ⟨opc, rfl⟩)
    · exact decode_fixedRow row mem
    · exact decode_of_opc_rsgen opc

theorem decode_rejects_iff (w : Word) : (∃ e, decode w = .error e) ↔ ∀ i, decode w ≠ .ok i := by
  cases decode w <;> simp

end Sys2Proof.Machine

namespace Sys2Proof.Proofs

open Sys2Proof.Machine

/-- Settles O3: what is decoded is well formed and encodes to the word; a well-formed command's encoding decodes to it. -/
theorem decodeAndEncodeAgree : Obligations.DecodeAndEncodeAgree := by
  unfold Obligations.DecodeAndEncodeAgree
  intro w i
  constructor
  · exact fun h => ⟨wellFormed_of_decode h, encode_of_decode h⟩
  · rintro ⟨wf, rfl⟩
    exact decode_encode wf

/-- Settles O2: a word is rejected when it decodes to no command, so the second clause is the first one's negation. -/
theorem decodeSelectsTheMatchingRow : Obligations.DecodeSelectsTheMatchingRow := by
  unfold Obligations.DecodeSelectsTheMatchingRow
  refine ⟨decode_eq_ok_iff_row, fun w => (decode_rejects_iff w).trans
    ⟨fun rejected => ⟨fun row mem word => ?_, fun opc => ?_⟩, ?_⟩⟩
  · exact rejected row.2 ((decode_eq_ok_iff_row w _).2 (.inl ⟨row, mem, word, rfl⟩))
  · exact rejected _ ((decode_eq_ok_iff_row w _).2 (.inr ⟨opc, rfl⟩))
  · rintro ⟨fixed, rsgen⟩ i decoded
    obtain ⟨row, mem, word, -⟩ | ⟨opc, -⟩ := (decode_eq_ok_iff_row w i).1 decoded
    · exact fixed row mem word
    · exact rsgen opc

/-- Settles O1: the fixed rows are those of the table of R82, and RSGEN's five words have its opcode. -/
theorem opcodeTableWordsDecode : Obligations.OpcodeTableWordsDecode := by
  have rows := decode_fixedRow
  simp only [Spec.fixedRows, List.forall_mem_cons] at rows
  obtain ⟨nop, gfbuild, gfmul, pmul, pdiv, rsenc, rows⟩ := rows
  obtain ⟨bsenc, bspad, bssplit, mxinit, mxfind, mxtime, mxfrsv, mxplace, mxmask, mxfmt, encode, clrerr, -⟩ := rows
  exact ⟨nop, gfbuild, gfmul, pmul, pdiv, decode_of_opc_rsgen rfl, decode_of_opc_rsgen rfl, decode_of_opc_rsgen rfl,
    decode_of_opc_rsgen rfl, decode_of_opc_rsgen rfl, rsenc, bsenc, bspad, bssplit, mxinit, mxfind, mxtime, mxfrsv, mxplace,
    mxmask, mxfmt, encode, clrerr⟩

end Sys2Proof.Proofs
end

section
/-! PROOFS. The field: EXP and LOG are inverse, EXP's entries are the powers of 2, and `gf_mul` is the field product, whence its laws
(R101 to R105). -/

namespace Sys2Proof.Spec

/-! ### Doubling is linear (R14) -/

/-- A term that a bit lets in: over GF(2), bits add as the terms they let in. -/
theorem ite_xor (p q : Bool) (a : Byte) :
    (if p ^^ q then a else 0#8) = (if p then a else 0#8) ^^^ if q then a else 0#8 := by
  cases p <;> cases q <;> simp

theorem timesTwo_eq_xor_ite (x : Byte) : timesTwo x = (x <<< 1) ^^^ if x.getLsbD 7 then 0x1D#8 else 0#8 := by
  unfold timesTwo
  split <;> simp

theorem timesTwo_xor (x y : Byte) : timesTwo (x ^^^ y) = timesTwo x ^^^ timesTwo y := by
  simp only [timesTwo_eq_xor_ite, BitVec.getLsbD_xor, BitVec.shiftLeft_xor_distrib, ite_xor]
  ac_rfl

@[simp] theorem timesTwo_zero : timesTwo 0#8 = 0#8 := rfl

/-! ### The field product (R103) -/

@[simp] theorem fieldProduct_zero_left (b : Byte) : fieldProduct 0#8 b = 0#8 :=
  List.foldl_fixed' (fun i => by simp) _

@[simp] theorem fieldProduct_zero_right (a : Byte) : fieldProduct a 0#8 = 0#8 :=
  List.foldl_fixed' (fun i => by simp) _

/-- The bits of `b` are shifted in from bit 7 down: a check of the 256 bytes. -/
theorem fieldProduct_one_left (b : Byte) : fieldProduct 1#8 b = b := by
  revert b
  decide +kernel

/-- A factor of 2 comes out of the product: it comes out of each step of the shift and reduce. -/
theorem fieldProduct_timesTwo_left (a b : Byte) : fieldProduct (timesTwo a) b = timesTwo (fieldProduct a b) := by
  refine List.foldl_hom timesTwo (init := 0#8) fun acc i => ?_
  rw [timesTwo_xor, apply_ite timesTwo, BitVec.ofNat_eq_ofNat, timesTwo_zero]

/-- The product distributes over addition, as each step of the shift and reduce does. -/
theorem fieldProduct_xor_right (a b c : Byte) : fieldProduct a (b ^^^ c) = fieldProduct a b ^^^ fieldProduct a c := by
  refine List.foldl_hom₂ _ (· ^^^ ·) _ _ _ 0#8 0#8 fun x y i => ?_
  rw [timesTwo_xor, BitVec.getLsbD_xor, BitVec.ofNat_eq_ofNat, ite_xor]
  ac_rfl

/-- Doubling the left factor again and again doubles the product as often. -/
theorem fieldProduct_iterate_left (n : Nat) (a b : Byte) : fieldProduct (timesTwo^[n] a) b = timesTwo^[n] (fieldProduct a b) :=
  Function.Semiconj.iterate_right (f := (fieldProduct · b)) (fun a => fieldProduct_timesTwo_left a b) n a

end Sys2Proof.Spec

namespace Sys2Proof.Machine

/-! ### The powers of 2 (R101) -/

/-- The 9-bit step of R101 is doubling: a check of the 256 bytes. -/
theorem gfDouble_setWidth (x : Byte) : gfDouble (x.setWidth 9) = (Spec.timesTwo x).setWidth 9 := by
  revert x
  decide +kernel

theorem getElem?_gfPowers {n k : Nat} (h : k < n) (x : BitVec 9) : (gfPowers n x)[k]? = some (gfDouble^[k] x) := by
  induction n generalizing k x with
  | zero => omega
  | succ n ih =>
    cases k with
    | zero => rfl
    | succ k => exact ih (by omega) (gfDouble x)

/-- The entries of the printed EXP table are the powers of 2 (R101, R102). -/
theorem expTable_eq_iterate {k : Nat} (h : k < 255) : Spec.expTable.getD k 0 = Spec.timesTwo^[k] 1 := by
  have doubles : gfDouble^[k] ((1 : Byte).setWidth 9) = (Spec.timesTwo^[k] 1).setWidth 9 :=
    Function.Semiconj.iterate_right (f := BitVec.setWidth 9) (fun x => (gfDouble_setWidth x).symm) k 1 |>.symm
  rw [← gfPowers_eq_expTable, List.getD_eq_getElem?_getD, List.getElem?_map, getElem?_gfPowers h]
  exact (congrArg (BitVec.setWidth 8) doubles).trans (by simp)

/-- The powers come round after 255 doublings. -/
theorem timesTwo_iterate_255 : Spec.timesTwo^[255] 1 = 1 := by
  rw [Function.iterate_succ_apply', ← expTable_eq_iterate (by decide)]
  decide +kernel

/-! ### Built tables (R102) -/

theorem one_le_toNat_of_ne_zero {a : Byte} (h : a ≠ 0) : 1 ≤ a.toNat :=
  Nat.one_le_iff_ne_zero.2 fun zero => h (BitVec.eq_of_toNat_eq zero)

section

variable {e : Vector Byte 512} {l : Vector Byte 256} (built : Spec.TablesBuilt e l)
include built

/-- Every entry of EXP below 510 is the power of 2 of its index. -/
theorem exp_eq_iterate {k : Nat} (hk : k ≤ 509) : entry e k = Spec.timesTwo^[k] 1 := by
  obtain ⟨first, copy, -⟩ := built
  by_cases h : k < 255
  · rw [first k h, expTable_eq_iterate h]
  · obtain ⟨j, rfl⟩ := Nat.exists_eq_add_of_le (Nat.le_of_not_lt h)
    rw [copy _ (by omega) hk, Nat.add_sub_cancel_left, first j (by omega), expTable_eq_iterate (by omega), Nat.add_comm,
      Function.iterate_add_apply, timesTwo_iterate_255]

theorem log_le {a : Nat} (h1 : 1 ≤ a) (h2 : a < 256) : (entry l a).toNat ≤ 254 := by
  obtain ⟨-, -, log⟩ := built
  rw [log a h1 h2]
  exact logTable_le a

/-- EXP inverts LOG (R102). -/
theorem exp_log {a : Nat} (h1 : 1 ≤ a) (h2 : a < 256) : (entry e (entry l a).toNat).toNat = a := by
  have le := log_le built h1 h2
  obtain ⟨first, -, log⟩ := built
  rw [first _ (by omega), log a h1 h2]
  have power := expTable_at_logTable h1 h2
  rw [List.getElem?_map, Option.map_eq_some_iff] at power
  obtain ⟨x, at_log, rfl⟩ := power
  rw [List.getD_eq_getElem?_getD, at_log]; rfl

/-- Every non-zero byte is the power of 2 that LOG names. -/
theorem eq_iterate_log {a : Byte} (h : a ≠ 0) : a = Spec.timesTwo^[(entry l a.toNat).toNat] 1 := by
  have pos := one_le_toNat_of_ne_zero h
  have le := log_le built pos a.isLt
  rw [← exp_eq_iterate built (by omega)]
  exact BitVec.eq_of_toNat_eq (exp_log built pos a.isLt).symm

/-- LOG inverts EXP (R102). -/
theorem log_exp {i : Nat} (hi : i < 255) : (entry l (entry e i).toNat).toNat = i := by
  obtain ⟨first, -, log⟩ := built
  have hl : i < Spec.expTable.length := Nat.lt_of_lt_of_eq hi (by decide +kernel)
  rw [first i hi, List.getD_eq_getElem _ _ hl]
  have nonzero : Spec.expTable[i].toNat ≠ 0 := fun zero =>
    expTable_ne_zero (zero ▸ List.mem_map_of_mem (List.getElem_mem hl))
  rw [log _ (by omega) Spec.expTable[i].isLt]
  have inverse := congrArg (·[i]?) log_of_expTable
  simpa [hl, hi] using inverse

/-! ### The product by the tables (R103, R105) -/

/-- The index `gf_mul` forms is at most 508, inside the part of EXP that is written (R103). -/
theorem log_add_log_le {a b : Byte} (ha : a ≠ 0) (hb : b ≠ 0) : (entry l a.toNat).toNat + (entry l b.toNat).toNat ≤ 508 := by
  have := log_le built (one_le_toNat_of_ne_zero ha) a.isLt
  have := log_le built (one_le_toNat_of_ne_zero hb) b.isLt
  omega

/-- A product with a non-zero byte doubles as often as LOG says. -/
theorem fieldProduct_eq_iterate_log {a : Byte} (h : a ≠ 0) (b : Byte) :
    Spec.fieldProduct a b = Spec.timesTwo^[(entry l a.toNat).toNat] b := by
  conv_lhs => rw [eq_iterate_log built h, Spec.fieldProduct_iterate_left]
  exact congrArg _ (Spec.fieldProduct_one_left b)

/-- The product by the tables is the field product: both operands are powers of 2, and the index adds their exponents. -/
theorem gfMul_eq_fieldProduct (a b : Byte) : gfMul e l a b = Spec.fieldProduct a b := by
  unfold gfMul
  split
  next zero => rcases zero with rfl | rfl <;> simp
  next nonzero =>
    obtain ⟨ha, hb⟩ := not_or.1 nonzero
    have index := log_add_log_le built ha hb
    rw [exp_eq_iterate built (by omega), Function.iterate_add_apply, ← eq_iterate_log built hb,
      ← fieldProduct_eq_iterate_log built ha]

/-- The field product associates: a factor that is a power of 2 is so many doublings, which come out of a product. -/
theorem fieldProduct_assoc (a b c : Byte) :
    Spec.fieldProduct a (Spec.fieldProduct b c) = Spec.fieldProduct (Spec.fieldProduct a b) c := by
  by_cases ha : a = 0
  · subst ha; simp
  · rw [fieldProduct_eq_iterate_log built ha, fieldProduct_eq_iterate_log built ha, Spec.fieldProduct_iterate_left]

end

theorem gfMul_comm (e : Vector Byte 512) (l : Vector Byte 256) (a b : Byte) : gfMul e l a b = gfMul e l b a := by
  simp only [gfMul, or_comm, Nat.add_comm]

/-! ### The two commands (R101, R104) -/

section

variable {s : State} (accepted : s.err = false)
include accepted

theorem exec_gfbuild :
    exec .gfbuild s = .next { s with exp := buildExp s.exp, log := buildLog s.log, gfv := true, done := true } :=
  (exec_eq_runCommand .gfbuild s).trans
    (runCommand_done (t := (s.setDone false).setTables (buildExp s.exp) (buildLog s.log)) (.inl accepted) rfl)

theorem exec_gfmul (tables : s.gfv = true) :
    exec .gfmul s = .next { s with gfr := gfMul s.exp s.log s.gfa s.gfb, done := true } :=
  (exec_eq_runCommand .gfmul s).trans
    (runCommand_done (t := (s.setDone false).setProduct (gfMul s.exp s.log s.gfa s.gfb)) (.inl accepted) (if_pos tables))

theorem exec_gfmul_raises (tables : s.gfv = false) : exec .gfmul s = .next (Spec.failed s .sequence 0x02 0x0001) :=
  (exec_eq_runCommand .gfmul s).trans
    (runCommand_raised (t := s.setDone false) (e := Raise.ofSequence .gfmul 0x0001) (.inl accepted)
      (if_neg (Bool.eq_false_iff.1 tables)))

end

end Sys2Proof.Machine

namespace Sys2Proof.Proofs

open Sys2Proof.Machine

/-- Settles O17: the tables GFBUILD leaves are built ones, and the entries of built ones are the powers of 2. -/
theorem gfbuildBuildsTheTables : Obligations.GfbuildBuildsTheTables := by
  unfold Obligations.GfbuildBuildsTheTables
  intro s accepted
  have built := tablesBuilt_build s.exp s.log
  refine ⟨_, _, exec_gfbuild accepted, exp_eq_iterate built (by decide), fun i hi => ?_, fun i hi => ?_, ?_, ?_, ?_, ?_⟩
  · rw [exp_eq_iterate built (by omega), exp_eq_iterate built (by omega), Function.iterate_succ_apply']
  · exact BitVec.eq_of_toNat_eq (by rw [log_exp built hi, BitVec.toNat_ofNat, Nat.mod_eq_of_lt (by omega)])
  · obtain ⟨-, copy, -⟩ := built
    exact copy
  · exact entry_buildExp s.exp 510 (by decide)
  · exact entry_buildExp s.exp 511 (by decide)
  · exact entry_buildLog_zero s.log

/-- Settles O18: in built tables LOG and EXP invert each other, so the place of a byte in EXP is its LOG and no other. -/
theorem gfbuildTablesArePrinted : Obligations.GfbuildTablesArePrinted := by
  unfold Obligations.GfbuildTablesArePrinted
  constructor
  · intro s t accepted run
    cases (exec_gfbuild accepted).symm.trans run
    exact tablesBuilt_build s.exp s.log
  · intro e l built
    refine ⟨fun i => log_exp built, fun a h1 h2 => ⟨exp_log built h1 h2, log_le built h1 h2⟩, fun b nonzero => ?_⟩
    have pos := one_le_toNat_of_ne_zero nonzero
    refine ⟨(entry l b.toNat).toNat, Nat.lt_succ_of_le (log_le built pos b.isLt), ?_, fun j hj power => ?_⟩
    · exact BitVec.eq_of_toNat_eq (exp_log built pos b.isLt)
    · rw [← power, log_exp built hj]

/-- Settles O19: GFMUL's rule is `gf_mul` behind the guard on GFV; the examples are products of the field. -/
theorem gfmulMultiplies : Obligations.GfmulMultiplies := by
  unfold Obligations.GfmulMultiplies
  refine ⟨fun w => ⟨fun decoded => (encode_of_decode decoded).symm, ?_⟩, fun s => exec_gfmul, fun s => exec_gfmul_raises, ?_⟩
  · rintro rfl; rfl
  · intro s t built accepted tables run
    cases (exec_gfmul accepted tables).symm.trans run
    simp only [gfMul_eq_fieldProduct built]
    have fixed {x y r : Byte} (product : Spec.fieldProduct x y = r) (gfa : s.gfa = x) (gfb : s.gfb = y) :
        Spec.fieldProduct s.gfa s.gfb = r := by rw [gfa, gfb, product]
    exact ⟨fixed (by decide), fixed (by decide), fixed (by decide)⟩

/-- Settles O20: both operands are powers of 2, whose exponents the tables add. -/
theorem gfMulIsTheFieldProduct : Obligations.GfMulIsTheFieldProduct :=
  fun _ _ built => gfMul_eq_fieldProduct built

/-- Settles O21: the index is symmetric in the operands, and the other laws are those of the field product. -/
theorem gfMulLaws : Obligations.GfMulLaws := by
  unfold Obligations.GfMulLaws
  intro e l built a b c
  refine ⟨gfMul_comm e l a b, ?_, ?_, ?_, ?_, log_add_log_le built⟩ <;> simp only [gfMul_eq_fieldProduct built]
  · exact Spec.fieldProduct_zero_right a
  · exact Spec.fieldProduct_one_left a
  · exact fieldProduct_assoc built a b c
  · exact Spec.fieldProduct_xor_right a b c

end Sys2Proof.Proofs
end

section
/-! PROOFS. Division by a generator, and the generators: what one position of the division adds to the buffer, hence that data with
its ECC divides without remainder and that a changed bit changes the ECC; and the ends and the printed rows of `genpoly` (R123 to
R129). -/

namespace Sys2Proof.Spec

/-! ### The exclusive or of two sequences -/

theorem ext_getD {p q : List Byte} (length : p.length = q.length) (h : ∀ k, k < p.length → p.getD k 0 = q.getD k 0) : p = q :=
  List.ext_getElem length fun k hp hq => by
    rw [← List.getD_eq_getElem p 0 hp, ← List.getD_eq_getElem q 0 hq, h k hp]

theorem length_xorList {u v : List Byte} (length : u.length = v.length) : (xorList u v).length = u.length := by
  simp [xorList, length]

theorem getD_xorList {u v : List Byte} (length : u.length = v.length) (k : Nat) :
    (xorList u v).getD k 0 = u.getD k 0 ^^^ v.getD k 0 := by
  by_cases hk : k < u.length
  · simp [xorList, hk, ← length]
  · rw [List.getD_eq_default _ _ (by rw [length_xorList length]; omega), List.getD_eq_default _ _ (by omega),
      List.getD_eq_default _ _ (by omega)]
    rfl

theorem xorList_self (u : List Byte) : xorList u u = List.replicate u.length 0 := by
  refine ext_getD (by simp [xorList]) fun k hk => ?_
  rw [getD_xorList rfl, BitVec.xor_self, List.getD_replicate _ (by simpa [xorList] using hk)]
  rfl

/-- A sequence is zero when exclusive-or with it leaves some sequence as it was. -/
theorem getD_eq_zero_of_xorList_eq {u v : List Byte} (length : u.length = v.length) (h : xorList u v = u) (k : Nat) :
    v.getD k 0 = 0 := by
  have entry := getD_xorList length k
  rw [h] at entry
  simpa using entry.symm

/-- Exclusive-or of one entry of a sequence, as the exclusive or with a sequence of one entry and zeros. -/
theorem set_xor_eq_xorList (u : List Byte) (k : Nat) (b : Byte) :
    u.set k (u.getD k 0 ^^^ b) = xorList u ((List.replicate u.length 0).set k b) := by
  refine List.ext_getElem (by simp [xorList]) fun i hi _ => ?_
  have : i < u.length := by simpa using hi
  by_cases h : k = i
  · subst h; simp [xorList, this]
  · simp [xorList, h]

/-! ### Doubling has no zero but zero (R14) -/

/-- A check of the 256 bytes. -/
theorem timesTwo_ne_zero {x : Byte} : x ≠ 0 → timesTwo x ≠ 0 := by
  revert x
  decide +kernel

theorem timesTwo_iterate_ne_zero (n : Nat) : timesTwo^[n] 1 ≠ 0 := by
  induction n with
  | zero => exact (by decide : (1 : Byte) ≠ 0)
  | succ n ih =>
    rw [Function.iterate_succ_apply']
    exact timesTwo_ne_zero ih

end Sys2Proof.Spec

namespace Sys2Proof.Machine

open Sys2Proof.Spec (xorList)

variable {mul : Byte → Byte → Byte} {g : List Byte}

/-! ### One position of the division (R123) -/

/-- What the division adds `j` entries after the position whose coefficient is `coef` (R123). -/
def scaledTerm (mul : Byte → Byte → Byte) (g : List Byte) (coef : Byte) (j : Nat) : Byte :=
  if coef = 0 ∨ g.getD j 0 = 0 then 0 else mul (g.getD j 0) coef

@[simp] theorem scaledTerm_zero (j : Nat) : scaledTerm mul g 0 j = 0 := by simp [scaledTerm]

theorem scaledTerm_of_length_le (coef : Byte) {j : Nat} (h : g.length ≤ j) : scaledTerm mul g coef j = 0 :=
  if_pos (.inr (List.getD_eq_default _ _ h))

theorem divideAt_of_zero {w : List Byte} {i : Nat} (h : w.getD i 0 = 0) : divideAt mul g w i = w := if_pos h

theorem lt_length_of_getD_ne_zero {j : Nat} (h : g.getD j 0 ≠ 0) : j < g.length :=
  Nat.lt_of_not_le fun long => h (List.getD_eq_default _ _ long)

theorem getD_divideAt {w : List Byte} {k : Nat} (hk : k < w.length) (i : Nat) :
    (divideAt mul g w i).getD k 0 = w.getD k 0 ^^^ if i ≤ k then scaledTerm mul g (w.getD i 0) (k - i) else 0 := by
  by_cases coef : w.getD i 0 = 0
  · rw [divideAt_of_zero coef, coef, scaledTerm_zero, ite_self]
    exact BitVec.xor_zero.symm
  · rw [divideAt, if_neg coef, List.getD_eq_getElem _ _ (by simpa using hk), List.getD_eq_getElem w _ hk]
    simp only [List.getElem_map, List.getElem_zipIdx, Nat.zero_add, and_iff_right_of_imp lt_length_of_getD_ne_zero, scaledTerm,
      coef, false_or, ite_not, ite_and]
    split_ifs with le absent
    · exact BitVec.xor_zero.symm
    · rfl
    · exact BitVec.xor_zero.symm

/-- A position adds up over two buffers when its terms do. -/
theorem divideAt_xorList {u v : List Byte} {i : Nat} (length : u.length = v.length)
    (additive : ∀ j, scaledTerm mul g (u.getD i 0 ^^^ v.getD i 0) j =
      scaledTerm mul g (u.getD i 0) j ^^^ scaledTerm mul g (v.getD i 0) j) :
    divideAt mul g (xorList u v) i = xorList (divideAt mul g u i) (divideAt mul g v i) := by
  have length' : (divideAt mul g u i).length = (divideAt mul g v i).length := by simpa using length
  refine Spec.ext_getD (by simp [Spec.length_xorList length, Spec.length_xorList length']) fun k hk => ?_
  have hu : k < u.length := by simpa [Spec.length_xorList length] using hk
  rw [Spec.getD_xorList length', getD_divideAt (by simpa using hk), getD_divideAt hu, getD_divideAt (length ▸ hu),
    Spec.getD_xorList length, Spec.getD_xorList length]
  split_ifs
  · rw [additive]; ac_rfl
  · simp

/-! ### The remainder of data and a tail (R127) -/

/-- Dividing data followed by a tail as long as the remainder: each entry of the data is one position. -/
theorem pdivrem_append {data tail : List Byte} (divisor : 1 ≤ g.length) (nonempty : data ≠ [])
    (length : tail.length = g.length - 1) :
    pdivrem mul (data ++ tail) g = ((List.range data.length).foldl (divideAt mul g) (data ++ tail)).drop data.length := by
  have pos := List.length_pos_iff.2 nonempty
  have positions : (data ++ tail).length - g.length + 1 = data.length := by rw [List.length_append]; omega
  have suffix : (data ++ tail).length - (g.length - 1) = data.length := by rw [List.length_append]; omega
  simp only [pdivrem, positions, suffix]

/-- The remainder of data, for no data too. -/
theorem rsRemainder_eq_drop (data : List Byte) (divisor : 1 ≤ g.length) :
    rsRemainder mul data g = ((List.range data.length).foldl (divideAt mul g)
      (data ++ List.replicate (g.length - 1) 0)).drop data.length := by
  cases data with
  | nil => rfl
  | cons a data => exact pdivrem_append divisor (List.cons_ne_nil a data) List.length_replicate

/-! ### Data followed by its ECC (R127) -/

/-- What stands behind the divided positions passes through the division. -/
theorem foldl_divideAt_xorList_of_zero {w t : List Byte} (length : w.length = t.length) (is : List Nat)
    (zero : ∀ i ∈ is, t.getD i 0 = 0) :
    is.foldl (divideAt mul g) (xorList w t) = xorList (is.foldl (divideAt mul g) w) t := by
  induction is generalizing w with
  | nil => rfl
  | cons i is ih =>
    have here : t.getD i 0 = 0 := zero i (by simp)
    have additive (j : Nat) : scaledTerm mul g (w.getD i 0 ^^^ t.getD i 0) j =
        scaledTerm mul g (w.getD i 0) j ^^^ scaledTerm mul g (t.getD i 0) j := by
      rw [here, scaledTerm_zero, BitVec.ofNat_eq_ofNat, BitVec.xor_zero, BitVec.xor_zero]
    have step : divideAt mul g (xorList w t) i = xorList (divideAt mul g w i) t := by
      rw [divideAt_xorList length additive, divideAt_of_zero here]
    rw [List.foldl_cons, step, ih (by simpa using length) fun j hj => zero j (by simp [hj]), List.foldl_cons]

/-- The division of zeros leaves zeros. -/
theorem pdivrem_replicate_zero (n : Nat) (divisor : g.length = n + 1) :
    pdivrem mul (List.replicate n 0) g = List.replicate n 0 := by
  rw [pdivrem, List.foldl_fixed' fun i => divideAt_of_zero (List.getElem?_getD_replicate_default_eq 0 n i), divisor]
  simp

/-- Data followed by its remainder: the remainder is carried along to the end, where it cancels. -/
theorem pdivrem_append_rsRemainder (data : List Byte) (divisor : 1 ≤ g.length) :
    pdivrem mul (data ++ rsRemainder mul data g) g = List.replicate (g.length - 1) 0 := by
  have length := length_rsRemainder mul data g divisor
  by_cases nonempty : data = []
  · subst nonempty
    exact pdivrem_replicate_zero _ (by omega)
  · have sum : data ++ rsRemainder mul data g =
        xorList (data ++ List.replicate (g.length - 1) 0) (List.replicate data.length 0 ++ rsRemainder mul data g) := by
      refine List.ext_getElem (by simp [xorList, length]) fun k h1 h2 => ?_
      by_cases hk : k < data.length
      · simp [xorList, hk]
      · simp [xorList, List.getElem_append_right, Nat.le_of_not_lt hk]
    have passes : ∀ i ∈ List.range data.length, (List.replicate data.length 0 ++ rsRemainder mul data g).getD i 0 = 0 :=
      fun i hi => by
        have := List.mem_range.1 hi
        rw [List.getD_append _ _ _ _ (by simpa using this), List.getD_replicate _ this]
    rw [pdivrem_append divisor nonempty length, sum, foldl_divideAt_xorList_of_zero (by simp [length]) _ passes, xorList,
      List.drop_zipWith, ← rsRemainder_eq_drop data divisor, List.drop_left' List.length_replicate]
    exact (Spec.xorList_self _).trans (by rw [length])

/-! ### The remainder is linear (R129) -/

section

variable (distrib : ∀ a b c, mul a (b ^^^ c) = mul a b ^^^ mul a c)
include distrib

theorem scaledTerm_xor (b c : Byte) (j : Nat) :
    scaledTerm mul g (b ^^^ c) j = scaledTerm mul g b j ^^^ scaledTerm mul g c j := by
  by_cases absent : g.getD j 0 = 0
  · simp only [scaledTerm, absent, or_true, if_true]; rfl
  · have zero (a : Byte) : mul a 0 = 0 := by simpa using distrib a 0 0
    have term (b : Byte) : scaledTerm mul g b j = mul (g.getD j 0) b := by
      by_cases hb : b = 0
      · rw [hb, zero, scaledTerm_zero]
      · rw [scaledTerm, if_neg (not_or.2 ⟨hb, absent⟩)]
    rw [term, term, term, distrib]

theorem foldl_divideAt_xorList {u v : List Byte} (length : u.length = v.length) (is : List Nat) :
    is.foldl (divideAt mul g) (xorList u v) = xorList (is.foldl (divideAt mul g) u) (is.foldl (divideAt mul g) v) := by
  induction is generalizing u v with
  | nil => rfl
  | cons i is ih =>
    rw [List.foldl_cons, divideAt_xorList length (scaledTerm_xor distrib _ _), ih (by simpa using length), List.foldl_cons,
      List.foldl_cons]

/-- The remainder of the exclusive or is the exclusive or of the remainders (R129). -/
theorem rsRemainder_xorList {u v : List Byte} (length : u.length = v.length) (divisor : 1 ≤ g.length) :
    rsRemainder mul (xorList u v) g = xorList (rsRemainder mul u g) (rsRemainder mul v g) := by
  have append : xorList u v ++ List.replicate (g.length - 1) 0 =
      xorList (u ++ List.replicate (g.length - 1) 0) (v ++ List.replicate (g.length - 1) 0) := by
    rw [xorList, xorList, List.zipWith_append length]
    simp
  rw [rsRemainder_eq_drop _ divisor, rsRemainder_eq_drop _ divisor, rsRemainder_eq_drop _ divisor, append,
    foldl_divideAt_xorList distrib (by simp [length]), Spec.length_xorList length, ← length]
  exact List.drop_zipWith

end

/-! ### Data with a single entry that is not zero (R129) -/

/-- The buffer, divided at the positions below `p`, still leaves a remainder: the last entry that is not zero stands at `p` or
behind, and a divisor of degree `n` laid at any later entry that is not zero ends behind it. -/
def LeavesRemainder (n p : Nat) (w : List Byte) : Prop :=
  ∃ t, p ≤ t ∧ w.getD t 0 ≠ 0 ∧ (∀ i, t < i → w.getD i 0 = 0) ∧ ∀ i, p ≤ i → w.getD i 0 ≠ 0 → t < i + n

/-- The entries of data with one entry that may not be zero, and of the zeros behind it. -/
theorem getD_single_append {m k : Nat} (hk : k < m) (b : Byte) (n i : Nat) :
    ((List.replicate m 0).set k b ++ List.replicate n 0).getD i 0 = if i = k then b else 0 := by
  by_cases hi : i < m
  · rw [List.getD_append _ _ _ _ (by simpa using hi), List.getD_eq_getElem _ _ (by simpa using hi), List.getElem_set,
      List.getElem_replicate]
    simp only [eq_comm]
  · rw [List.getD_append_right _ _ _ _ (by simpa using hi), if_neg (by omega)]
    exact List.getElem?_getD_replicate_default_eq _ _ _

theorem leavesRemainder_single {m k n : Nat} {b : Byte} (pos : 1 ≤ n) (hk : k < m) (nonzero : b ≠ 0) :
    LeavesRemainder n 0 ((List.replicate m 0).set k b ++ List.replicate n 0) := by
  simp only [LeavesRemainder, getD_single_append hk]
  refine ⟨k, Nat.zero_le k, by rwa [if_pos rfl], fun i hi => if_neg (by omega), fun i _ entry => ?_⟩
  have here : i = k := of_not_not fun other => entry (if_neg other)
  omega

section

variable {n : Nat} (domain : ∀ a b, a ≠ 0 → b ≠ 0 → mul a b ≠ 0) (pos : 1 ≤ n) (degree : g.length = n + 1)
  (tail : g.getD n 0 ≠ 0)
include domain pos degree tail

/-- A divided position puts a new last entry behind all others, the divisor's last coefficient times the one divided. -/
theorem leavesRemainder_divideAt {p : Nat} {w : List Byte} (fits : p + n < w.length) (h : LeavesRemainder n p w) :
    LeavesRemainder n (p + 1) (divideAt mul g w p) := by
  obtain ⟨t, le, last, beyond, reach⟩ := h
  by_cases coef : w.getD p 0 = 0
  · have later : p ≠ t := fun same => last (same ▸ coef)
    rw [divideAt_of_zero coef]
    exact ⟨t, by omega, last, beyond, fun i hi => reach i (by omega)⟩
  · have short : t < p + n := reach p (Nat.le_refl p) coef
    refine ⟨p + n, by omega, ?_, fun i hi => ?_, fun i hi _ => by omega⟩
    · rw [getD_divideAt fits, beyond _ short, if_pos (Nat.le_add_right p n), Nat.add_sub_cancel_left, scaledTerm,
        if_neg (not_or.2 ⟨coef, tail⟩)]
      simpa using domain _ _ tail coef
    · by_cases hw : i < w.length
      · rw [getD_divideAt hw, beyond i (by omega), scaledTerm_of_length_le _ (by omega)]
        simp
      · exact List.getD_eq_default _ _ (by simpa using hw)

/-- Data with a single entry that is not zero has a remainder that is not zero. -/
theorem rsRemainder_single {m k : Nat} {b : Byte} (hk : k < m) (nonzero : b ≠ 0) :
    ∃ i, (rsRemainder mul ((List.replicate m 0).set k b) g).getD i 0 ≠ 0 := by
  have run (p : Nat) (hp : p ≤ m) : LeavesRemainder n p
      ((List.range p).foldl (divideAt mul g) ((List.replicate m 0).set k b ++ List.replicate n 0)) := by
    induction p with
    | zero => exact leavesRemainder_single pos hk nonzero
    | succ p ih =>
      rw [List.range_succ, List.foldl_append, List.foldl_cons, List.foldl_nil]
      refine leavesRemainder_divideAt domain pos degree tail ?_ (ih (by omega))
      rw [length_foldl_divideAt, List.length_append, List.length_set, List.length_replicate, List.length_replicate]
      omega
  obtain ⟨t, le, last, -⟩ := run m (Nat.le_refl m)
  refine ⟨t - m, ?_⟩
  rw [rsRemainder_eq_drop _ (by omega), degree, List.length_set, List.length_replicate]
  simpa [List.getD, Nat.add_sub_cancel' le] using last

/-- Changing one entry of the data changes the remainder: the change has a remainder of its own (R129). -/
theorem rsRemainder_set_ne {k : Nat} {b : Byte} (data : List Byte) (distrib : ∀ a b c, mul a (b ^^^ c) = mul a b ^^^ mul a c)
    (hk : k < data.length) (nonzero : b ≠ 0) :
    rsRemainder mul (data.set k (data.getD k 0 ^^^ b)) g ≠ rsRemainder mul data g := by
  intro same
  have divisor : 1 ≤ g.length := by omega
  obtain ⟨i, entry⟩ := rsRemainder_single domain pos degree tail hk nonzero
  rw [Spec.set_xor_eq_xorList, rsRemainder_xorList distrib (by simp) divisor] at same
  refine entry (Spec.getD_eq_zero_of_xorList_eq ?_ same i)
  rw [length_rsRemainder _ _ _ divisor, length_rsRemainder _ _ _ divisor]

end

/-! ### The ends of a product (R121) -/

theorem foldl_range_single (f : Nat → Byte) (i n : Nat) (a : Byte) :
    (List.range n).foldl (fun acc j => if j = i then acc ^^^ f j else acc) a = if i < n then a ^^^ f i else a := by
  induction n with
  | zero => rfl
  | succ n ih =>
    rw [List.range_succ, List.foldl_append, ih, List.foldl_cons, List.foldl_nil]
    by_cases here : n = i
    · subst here; simp
    · simp [here, show (i < n + 1) = (i < n) from propext (by omega)]

/-- A coefficient to which one pair of terms contributes is that pair's product. -/
theorem productAt_of_unique {p q : List Byte} {i k : Nat} (hi : i < p.length)
    (unique : ∀ j < p.length, (j ≤ k ∧ k - j < q.length) ↔ j = i) :
    productAt mul p q k = mul (p.getD i 0) (q.getD (k - i) 0) := by
  have only : productAt mul p q k = (List.range p.length).foldl
      (fun acc j => if j = i then acc ^^^ mul (p.getD j 0) (q.getD (k - j) 0) else acc) 0 :=
    List.foldl_ext _ _ _ fun acc j hj => by simp only [unique j (List.mem_range.1 hj)]
  rw [only, foldl_range_single (fun j => mul (p.getD j 0) (q.getD (k - j) 0)), if_pos hi]
  exact BitVec.zero_xor

theorem getD_pmul {p q : List Byte} {k : Nat} (hk : k < p.length + q.length - 1) :
    (pmul mul p q).getD k 0 = productAt mul p q k := by
  rw [List.getD_eq_getElem _ _ (by simpa using hk), getElem_pmul]

/-- The leading coefficient of a product is the product of the leading ones. -/
theorem getD_pmul_zero {p q : List Byte} (hp : 1 ≤ p.length) (hq : 1 ≤ q.length) :
    (pmul mul p q).getD 0 0 = mul (p.getD 0 0) (q.getD 0 0) := by
  rw [getD_pmul (by omega), productAt_of_unique (i := 0) (by omega) fun j _ => by omega]

/-- The last coefficient of a product is the product of the last ones. -/
theorem getD_pmul_last {p q : List Byte} {m n : Nat} (hp : p.length = m + 1) (hq : q.length = n + 1) :
    (pmul mul p q).getD (m + n) 0 = mul (p.getD m 0) (q.getD n 0) := by
  rw [getD_pmul (by omega), productAt_of_unique (i := m) (by omega) fun j _ => by omega, Nat.add_sub_cancel_left]

/-! ### The generators (R125) -/

theorem genpoly_succ (exp : Vector Byte 512) (mul : Byte → Byte → Byte) (n : Nat) :
    genpoly exp mul (n + 1) = pmul mul (genpoly exp mul n) [1, entry exp n] := by
  rw [genpoly, List.range_succ, List.foldl_append]
  rfl

section

variable {e : Vector Byte 512} {l : Vector Byte 256} (built : Spec.TablesBuilt e l)
include built

theorem exp_ne_zero {k : Nat} (hk : k ≤ 509) : entry e k ≠ 0 := by
  rw [exp_eq_iterate built hk]
  exact Spec.timesTwo_iterate_ne_zero k

/-- The field has no divisors of zero (R103). -/
theorem gfMul_ne_zero {a b : Byte} (ha : a ≠ 0) (hb : b ≠ 0) : gfMul e l a b ≠ 0 := by
  have index := log_add_log_le built ha hb
  rw [gfMul, if_neg (not_or.2 ⟨ha, hb⟩)]
  exact exp_ne_zero built (by omega)

theorem gfMul_xor_right (a b c : Byte) : gfMul e l a (b ^^^ c) = gfMul e l a b ^^^ gfMul e l a c := by
  simp only [gfMul_eq_fieldProduct built, Spec.fieldProduct_xor_right]

theorem gfMul_one_left (a : Byte) : gfMul e l 1 a = a :=
  (gfMul_eq_fieldProduct built 1 a).trans (Spec.fieldProduct_one_left a)

/-- A generator is monic: every factor is (R125). -/
theorem getD_genpoly_zero (n : Nat) : (genpoly e (gfMul e l) n).getD 0 0 = 1 := by
  induction n with
  | zero => rfl
  | succ n ih =>
    rw [genpoly_succ, getD_pmul_zero (by rw [length_genpoly]; omega) (by simp), ih]
    exact gfMul_one_left built 1

/-- The last coefficient of a generator is the product of the factors' last ones, powers of 2 (R125). -/
theorem getD_genpoly_last_ne_zero {n : Nat} (hn : n ≤ 510) : (genpoly e (gfMul e l) n).getD n 0 ≠ 0 := by
  induction n with
  | zero => exact (by decide : (1 : Byte) ≠ 0)
  | succ n ih =>
    rw [genpoly_succ, getD_pmul_last (length_genpoly _ _ _) (n := 1) rfl]
    exact gfMul_ne_zero built (ih (by omega)) (exp_ne_zero built (by omega))

end

/-- Each printed row but the first is the product of the row before and its factor: a check of the ten rows (R125). -/
theorem generatorRows_succ : ∀ n < 10, pmul Spec.fieldProduct (Spec.generatorRows.getD n []) [1, Spec.expTable.getD n 0] =
    Spec.generatorRows.getD (n + 1) [] := by
  decide +kernel

end Sys2Proof.Machine

namespace Sys2Proof.Proofs

open Sys2Proof.Machine

/-- Settles O29: the ECC stands behind the divided positions and cancels the remainder it equals. -/
theorem dataWithEccIsDivisible : Obligations.DataWithEccIsDivisible :=
  fun _ data _ => pdivrem_append_rsRemainder data

/-- Settles O30: the remainder is linear, and a single entry's is not zero, since the generator's last coefficient is not. -/
theorem singleBitChangesTheEcc : Obligations.SingleBitChangesTheEcc := by
  unfold Obligations.SingleBitChangesTheEcc
  intro e l built n data k j pos le hk hj
  have bit : BitVec.twoPow 8 j ≠ 0 := fun zero => by
    have := congrArg (BitVec.getLsbD · j) zero
    simp [hj] at this
  exact rsRemainder_set_ne (fun _ _ => gfMul_ne_zero built) pos (length_genpoly _ _ _)
    (getD_genpoly_last_ne_zero built (by omega)) data (gfMul_xor_right built) hk bit

/-- Settles O27: the ends of a product are the products of the ends, and the factors end in 1 and a power of 2. -/
theorem generatorIsMonicWithNonzeroTail : Obligations.GeneratorIsMonicWithNonzeroTail :=
  fun _ _ built n hn => ⟨length_genpoly _ _ n, getD_genpoly_zero built n, getD_genpoly_last_ne_zero built (by omega)⟩

/-- Settles O26: row by row, each from the one before. -/
theorem generatorRowsArePrinted : Obligations.GeneratorRowsArePrinted := by
  unfold Obligations.GeneratorRowsArePrinted
  intro e l built n hn
  have product : gfMul e l = Spec.fieldProduct := funext₂ (gfMul_eq_fieldProduct built)
  rw [product]
  induction n with
  | zero => rfl
  | succ n ih =>
    obtain ⟨first, -, -⟩ := built
    rw [genpoly_succ, ih (by omega), first n (by omega), generatorRows_succ n (by omega)]

end Sys2Proof.Proofs
end

section
/-! PROOFS. The four commands of the Reed-Solomon unit: their words, what each leaves when it completes, and the error of each guard
(R122, R124, R126, R128). -/

namespace Sys2Proof.Machine

/-! ### Words, guards and runs of writes -/

/-- A well-formed command has one word (R82, R83). -/
theorem decode_eq_ok_iff {i : Instr} (wf : i.WellFormed) (w : Word) : decode w = .ok i ↔ w = encode i :=
  ⟨fun decoded => (encode_of_decode decoded).symm, fun word => word ▸ decode_encode wf⟩

/-- RSGEN's word is its row with the count in the low byte (R83). -/
theorem encode_rsgen {n : Nat} (h : n < 256) : encode (.rsgen n) = BitVec.ofNat 16 (0x1200 + n) := by
  refine BitVec.eq_of_toNat_eq ?_
  rw [encode, BitVec.toNat_or, BitVec.toNat_setWidth_of_le (by decide), BitVec.toNat_ofNat, BitVec.toNat_ofNat,
    Nat.mod_eq_of_lt h, Nat.mod_eq_of_lt (by omega)]
  exact (Nat.two_pow_add_eq_or_of_lt (i := 8) h 0x12).symm

theorem opcode_rsgen (n : Nat) : opcode (.rsgen n) = 0x12 := (Laws.OpcodeByte.rsgen n).1

theorem legalLength_of_le {len : BitVec 6} (pos : 1 ≤ len.toNat) (le : len.toNat ≤ 32) : legalLength len = true :=
  (legalLength_iff len).2 ⟨pos, le⟩

theorem legalLength_eq_false {len : BitVec 6} (h : len.toNat = 0 ∨ 32 < len.toNat) : legalLength len = false := by
  rw [← Bool.not_eq_true, legalLength_iff]
  omega

theorem require_passes {ok : Bool} {e : Raise} {s : State} {rest r : Ran} (h : ok = true) (run : rest = r) :
    require ok e s rest = r := (if_pos h).trans run

theorem require_raises {ok : Bool} {e : Raise} {s : State} {rest : Ran} (h : ok = false) :
    require ok e s rest = .raised e s := if_neg (Bool.eq_false_iff.1 h)

/-- A file after a run of writes from index 0: the run, and behind it what was there. -/
theorem writeRun_zero_spec {α : Type} [Inhabited α] {n len : Nat} (x : Vector α n) {vs : List α} (length : vs.length = len)
    (fits : len ≤ n) : leading (writeRun x 0 vs) len = vs ∧ ∀ k, len ≤ k → entry (writeRun x 0 vs) k = entry x k :=
  ⟨leading_writeRun_zero x length fits, fun k hk => entry_writeRun_outside x 0 vs k (.inr (by omega))⟩

/-! ### The end of an accepted command (R81, R224) -/

section

variable {s : State} {i : Instr} (accepted : s.err = false)
include accepted

/-- An accepted command whose rule completes leaves the rule's state with DONE set. -/
theorem exec_completes {t : State} (done : bodyOf i (s.setDone false) = .done t) : exec i s = .next (t.setDone true) :=
  (exec_eq_runCommand i s).trans (runCommand_done (.inl accepted) done)

/-- An accepted command whose rule raises at once leaves the error's fields and nothing else (R224). -/
theorem exec_raises {e : Raise} (raised : bodyOf i (s.setDone false) = .raised e (s.setDone false)) :
    exec i s = .next (Spec.failed s e.cause e.stage e.info) :=
  (exec_eq_runCommand i s).trans (runCommand_raised (t := s.setDone false) (.inl accepted) raised)

end

end Sys2Proof.Machine

namespace Sys2Proof.Proofs

open Sys2Proof.Machine

/-- Settles O23: the convolution is the literal one, and each guard that fails raises its error. -/
theorem pmulConvolves : Obligations.PmulConvolves := by
  unfold Obligations.PmulConvolves
  refine ⟨decode_eq_ok_iff (i := .pmul) rfl, fun s accepted gfv pos le pos' le' => ?_, fun s accepted gfv => ?_,
    fun s accepted gfv illegal => ?_, fun s accepted gfv pos le illegal => ?_⟩
  · have length : (pmul (gfMul s.exp s.log) (paOperand s) (pbOperand s)).length = s.palen.toNat + s.pblen.toNat - 1 := by
      rw [length_pmul, length_paOperand le, length_pbOperand le']
    refine ⟨_, exec_completes (i := .pmul) accepted
      (require_passes gfv (require_passes (legalLength_of_le pos le) (require_passes (legalLength_of_le pos' le') rfl))), ?_⟩
    rw [← pmul_eq_loop]
    exact writeRun_zero_spec s.pr length (by omega)
  · exact exec_raises (i := .pmul) accepted (require_raises gfv)
  · exact exec_raises (i := .pmul) accepted (require_passes gfv (require_raises (legalLength_eq_false illegal)))
  · exact exec_raises (i := .pmul) accepted
      (require_passes gfv (require_passes (legalLength_of_le pos le) (require_raises (legalLength_eq_false illegal))))

/-- Settles O24: the division is the literal one, and each guard that fails raises its error. -/
theorem pdivDivides : Obligations.PdivDivides := by
  unfold Obligations.PdivDivides
  refine ⟨decode_eq_ok_iff (i := .pdiv) rfl, fun s accepted gfv le pos' le' => ?_, fun s accepted gfv => ?_,
    fun s accepted gfv illegal => ?_, fun s accepted gfv pos le illegal => ?_, fun s accepted gfv pos short le' => ?_⟩
  · have pa := legalLength_of_le (pos'.trans le') le
    have pb := legalLength_of_le pos' (le'.trans le)
    have dividend := length_paOperand le
    have divisor := length_pbOperand (le'.trans le)
    have length : (pdivrem (gfMul s.exp s.log) (paOperand s) (pbOperand s)).length = s.pblen.toNat - 1 := by
      rw [length_pdivrem _ _ _ (by omega) (by omega), divisor]
    refine ⟨_, exec_completes (i := .pdiv) accepted
      (require_passes gfv (require_passes pa (require_passes pb (require_passes (decide_eq_true le') rfl)))), ?_⟩
    rw [← pdivrem_eq_loop]
    exact writeRun_zero_spec s.pr length (by omega)
  · exact exec_raises (i := .pdiv) accepted (require_raises gfv)
  · exact exec_raises (i := .pdiv) accepted (require_passes gfv (require_raises (legalLength_eq_false illegal)))
  · exact exec_raises (i := .pdiv) accepted
      (require_passes gfv (require_passes (legalLength_of_le pos le) (require_raises (legalLength_eq_false illegal))))
  · have pa := legalLength_of_le pos (short.le.trans le')
    have pb := legalLength_of_le (pos.trans short.le) le'
    exact exec_raises (i := .pdiv) accepted
      (require_passes gfv (require_passes pa (require_passes pb (require_raises (decide_eq_false short.not_ge)))))

/-- Settles O25: the generator is the literal product of its factors; a count above 31 does not fit the file. -/
theorem rsgenBuildsTheGenerator : Obligations.RsgenBuildsTheGenerator := by
  unfold Obligations.RsgenBuildsTheGenerator
  refine ⟨fun w n => ?_, fun s n accepted gfv le => ?_, fun s n accepted gfv => ?_, fun s n accepted gfv long => ?_⟩
  · constructor
    · intro decoded
      have fits : n < 256 := of_decide_eq_true (wellFormed_of_decode decoded)
      exact ⟨fits, encode_rsgen fits ▸ (encode_of_decode decoded).symm⟩
    · rintro ⟨fits, rfl⟩
      exact encode_rsgen fits ▸ decode_encode (decide_eq_true fits)
  · refine ⟨_, exec_completes (i := .rsgen n) accepted (require_passes gfv (require_passes (decide_eq_true le) rfl)), ?_⟩
    rw [← genpoly_eq_loop]
    exact writeRun_zero_spec s.gen (length_genpoly _ _ n) (by omega)
  · rw [← opcode_rsgen n]
    exact exec_raises (i := .rsgen n) accepted (require_raises gfv)
  · rw [← opcode_rsgen n]
    exact exec_raises (i := .rsgen n) accepted
      (require_passes gfv (require_raises (decide_eq_false (Nat.not_le_of_lt long))))

/-- Settles O28: the remainder is the literal one, and each guard that fails raises its error. -/
theorem rsencEncodes : Obligations.RsencEncodes := by
  unfold Obligations.RsencEncodes
  refine ⟨decode_eq_ok_iff (i := .rsenc) rfl, fun s accepted gfv present fits le => ?_, fun s accepted gfv => ?_,
    fun s accepted gfv absent => ?_, fun s accepted gfv present long => ?_⟩
  · have generator := length_genOperand fits
    have length : (rsRemainder (gfMul s.exp s.log) (dataOperand s) (genOperand s)).length = s.genlen.toNat - 1 := by
      rw [length_rsRemainder _ _ _ (by omega), generator]
    refine ⟨_, exec_completes (i := .rsenc) accepted
      (require_passes gfv (require_passes (decide_eq_true present) (require_passes (decide_eq_true le) rfl))), ?_⟩
    rw [← rsRemainder_eq_loop]
    exact writeRun_zero_spec s.ecc length (by omega)
  · exact exec_raises (i := .rsenc) accepted (require_raises gfv)
  · exact exec_raises (i := .rsenc) accepted (require_passes gfv (require_raises (decide_eq_false (by simp [absent]))))
  · exact exec_raises (i := .rsenc) accepted
      (require_passes gfv (require_passes (decide_eq_true present) (require_raises (decide_eq_false long.not_ge))))

end Sys2Proof.Proofs
end

section
/-! PROOFS. The bit-stream formatter: where each codeword's bits stand in a stream, the entry BSENC's check finds, what the padding
makes of BS, and the ends of BSENC, BSPAD and BSSPLIT (R150 to R155). -/

namespace Sys2Proof.Machine

/-! ### The bits of a stream of codewords (R11, R66) -/

/-- Bit `j` of codeword `k` stands at index `8 k + j`, the most significant first. -/
theorem getD_flatMap_msb8 (l : List Byte) {k j : Nat} (hk : k < l.length) (hj : j < 8) :
    (l.flatMap msb8).getD (8 * k + j) default = (l.getD k default).getLsbD (7 - j) := by
  induction l generalizing k with
  | nil => exact absurd hk (Nat.not_lt_zero k)
  | cons c l ih =>
    rw [List.flatMap_cons]
    cases k with
    | zero =>
      have inside : 8 * 0 + j < (msb8 c).length := by rw [length_msb8]; omega
      rw [List.getD_append _ _ _ _ inside, List.getD_eq_getElem _ _ inside, getElem_msb8, List.getD_cons_zero, Nat.zero_add]
    | succ k =>
      have behind : 8 * (k + 1) + j - (msb8 c).length = 8 * k + j := by rw [length_msb8]; omega
      rw [List.getD_append_right _ _ _ _ (by rw [length_msb8]; omega), behind, ih (Nat.lt_of_succ_lt_succ hk), List.getD_cons_succ]

/-- The raw stream is the mode indicator and the codewords of the count and of the payload (R150). -/
theorem rawBits_eq_codewords (plen : BitVec 8) (payload : List (BitVec 9)) :
    rawBits plen payload = Config.modeByte ++ (plen :: payload.map (BitVec.setWidth 8)).flatMap msb8 := by
  rw [rawBits, List.append_assoc, List.flatMap_cons, List.flatMap_map]

/-- Behind the mode indicator stand the bits of the count, number 0, and of the payload entries, from number 1 on (R150). -/
theorem getD_rawBits (plen : BitVec 8) (payload : List (BitVec 9)) {k j : Nat} (hk : k ≤ payload.length) (hj : j < 8) :
    (rawBits plen payload).getD (4 + 8 * k + j) default =
      ((plen :: payload.map (BitVec.setWidth 8)).getD k default).getLsbD (7 - j) := by
  have mode : Config.modeByte.length = 4 := rfl
  have behind : 4 + 8 * k + j - Config.modeByte.length = 8 * k + j := by omega
  rw [rawBits_eq_codewords, List.getD_append_right _ _ _ _ (by omega), behind, getD_flatMap_msb8 _ (by simpa using hk) hj]

theorem getD_rawBits_payload (plen : BitVec 8) (payload : List (BitVec 9)) {i j : Nat} (hi : i < payload.length) (hj : j < 8) :
    (rawBits plen payload).getD (12 + 8 * i + j) default = (payload.getD i default).getLsbD (7 - j) := by
  have place : 12 + 8 * i + j = 4 + 8 * (i + 1) + j := by omega
  have low : 7 - j < 8 := by omega
  rw [place, getD_rawBits _ _ hi hj, List.getD_cons_succ, List.getD_eq_getElem _ _ (by simpa using hi), List.getElem_map,
    BitVec.getLsbD_setWidth, decide_eq_true low, Bool.true_and, List.getD_eq_getElem _ _ hi]

/-! ### BSENC's check and its writes (R151) -/

theorem firstUnrepresentable_payOperand_eq_none {s : State} (bytes : ∀ i, i < s.plen.toNat → (entry s.pay i).toNat ≤ 255) :
    firstUnrepresentable (payOperand s) = none := by
  refine List.findIdx?_eq_none_iff.2 fun p hp => ?_
  obtain ⟨i, hi, rfl⟩ := List.getElem_of_mem hp
  have read : (payOperand s)[i] = entry s.pay i := getElem_leading _ _ _ hi
  rw [read]
  exact decide_eq_false (bytes i (length_payOperand s ▸ hi)).not_gt

theorem firstUnrepresentable_payOperand_eq_some {s : State} {i : Nat} (hi : i < s.plen.toNat) (large : 255 < (entry s.pay i).toNat)
    (lowest : ∀ j, j < i → (entry s.pay j).toNat ≤ 255) : firstUnrepresentable (payOperand s) = some i := by
  have read : ∀ j (h : j < (payOperand s).length), (payOperand s)[j] = entry s.pay j := fun j h => getElem_leading _ _ _ h
  refine List.findIdx?_eq_some_iff_getElem.2 ⟨length_payOperand s ▸ hi, ?_, fun j hj => ?_⟩
  · rw [read]
    exact decide_eq_true large
  · rw [read, decide_eq_true_eq]
    exact (lowest j hj).not_gt

theorem withRaw_eq (s : State) :
    withRaw s = s.setBits 0 (rawBits s.plen (payOperand s)) (12 + 8 * s.plen.toNat) .raw := by
  rw [withRaw, length_raw]; rfl

/-! ### The padding and BSPAD's writes (R152, R153) -/

theorem take_pad (b : List Bool) (total : Nat) : (pad b total).take b.length = b := by
  obtain ⟨padding, append⟩ := isPrefix_pad b total
  rw [← append, List.take_left]

/-- Writing the padding behind a stream leaves the padded stream, and every entry outside the padding as it was. -/
theorem writeRun_pad_spec {n len total : Nat} (x : Vector Bool n) (le : len ≤ total) (fits : total ≤ n) (whole : total % 8 = 0) :
    leading (writeRun x len ((pad (leading x len) total).drop len)) total = pad (leading x len) total ∧
      ∀ k, k < len ∨ total ≤ k → entry (writeRun x len ((pad (leading x len) total).drop len)) k = entry x k := by
  have stream : (leading x len).length = len := by simp; omega
  have padded : (pad (leading x len) total).length = total := length_pad whole (stream.le.trans le)
  have run : len + ((pad (leading x len) total).drop len).length = total := by rw [List.length_drop]; omega
  have glued : leading x len ++ (pad (leading x len) total).drop len = pad (leading x len) total := by
    simpa only [stream] using append_drop_pad (leading x len) total
  constructor
  · have := leading_writeRun x len ((pad (leading x len) total).drop len) (by omega)
    rwa [run, glued] at this
  · exact fun k hk => entry_writeRun_outside _ _ _ _ (by omega)

end Sys2Proof.Machine

namespace Sys2Proof.Proofs

open Sys2Proof.Machine

/-- Settles O31: the stream is the mode indicator and whole codewords, so each bit is found by its codeword's number. -/
theorem bsencBuildsTheStream : Obligations.BsencBuildsTheStream := by
  unfold Obligations.BsencBuildsTheStream
  refine ⟨decode_eq_ok_iff (i := .bsenc) rfl, fun s accepted bytes => ?_, fun s i accepted hi large lowest => ?_⟩
  · have payload := length_payOperand s
    have small := s.plen.isLt
    have length : (rawBits s.plen (payOperand s)).length = 12 + 8 * s.plen.toNat := by rw [length_rawBits, payload]
    obtain ⟨written, kept⟩ := writeRun_zero_spec s.bs length (by omega)
    have read : ∀ k, k < 12 + 8 * s.plen.toNat →
        entry (writeRun s.bs 0 (rawBits s.plen (payOperand s))) k = (rawBits s.plen (payOperand s)).getD k default :=
      fun k hk => by rw [← getD_leading _ _ _ hk, written]
    have representable : firstUnrepresentable (payOperand (s.setDone false)) = none :=
      firstUnrepresentable_payOperand_eq_none bytes
    refine ⟨_, exec_completes (i := .bsenc) accepted ((bodyBsenc_done representable).trans (congrArg Ran.done (withRaw_eq _))),
      ⟨read 0 (by omega), read 1 (by omega), read 2 (by omega), read 3 (by omega)⟩, fun j hj => ?_, fun i j hi hj => ?_, kept⟩
    · exact (read _ (by omega)).trans (getD_rawBits s.plen (payOperand s) (Nat.zero_le _) hj)
    · rw [← getD_leading s.pay _ _ hi, ← payOperand]
      exact (read _ (by omega)).trans (getD_rawBits_payload s.plen _ (payload ▸ hi) hj)
  · exact exec_raises (i := .bsenc) accepted
      (bodyBsenc_raised (s := s.setDone false) (firstUnrepresentable_payOperand_eq_some hi large lowest))

/-- Settles O32: the loops append what the closed form does; a stream that fits fills up, and padding only appends. -/
theorem padFillsTheCapacity : Obligations.PadFillsTheCapacity :=
  ⟨pad_eq_loop, fun b total whole fits => ⟨length_pad whole fits, take_pad b total⟩⟩

/-- Settles O33: the padding is written behind the stream, and each guard that fails raises its error. -/
theorem bspadPadsTheStream : Obligations.BspadPadsTheStream := by
  unfold Obligations.BspadPadsTheStream
  refine ⟨decode_eq_ok_iff (i := .bspad) rfl, fun s accepted raw le => ?_, fun s accepted other => ?_,
    fun s accepted raw long => ?_⟩
  · refine ⟨_, exec_completes (i := .bspad) accepted
      (require_passes (beq_iff_eq.2 raw) (require_passes (decide_eq_true le) rfl)), ?_⟩
    rw [← pad_eq_loop]
    exact writeRun_pad_spec s.bs le (by decide) (by decide)
  · exact exec_raises (i := .bspad) accepted (require_raises (beq_eq_false_iff_ne.2 other))
  · exact exec_raises (i := .bspad) accepted
      (require_passes (beq_iff_eq.2 raw) (require_raises (decide_eq_false long.not_ge)))

/-- Settles O34: the codewords concatenate back to the stream, so each of their bits is the stream's bit at its place. -/
theorem bssplitSplitsTheStream : Obligations.BssplitSplitsTheStream := by
  unfold Obligations.BssplitSplitsTheStream
  refine ⟨decode_eq_ok_iff (i := .bssplit) rfl, fun s accepted padded => ?_, fun s accepted other => ?_⟩
  · obtain ⟨written, kept⟩ :=
      writeRun_zero_spec s.dcw (length_splitCodewords (leading s.bs 152) 19) (by decide)
    have joined : (leading (writeRun s.dcw 0 (splitCodewords (leading s.bs 152) 19)) 19).flatMap msb8 = leading s.bs 152 := by
      rw [written, flatMap_splitCodewords (by simp)]
    refine ⟨_, exec_completes (i := .bssplit) accepted (require_passes (beq_iff_eq.2 padded) rfl),
      fun k j hk hj => ?_, joined, kept⟩
    calc
      _ = ((leading (writeRun s.dcw 0 (splitCodewords (leading s.bs 152) 19)) 19).flatMap msb8).getD (8 * k + j) default := by
        rw [getD_flatMap_msb8 _ (by simpa using hk) hj, getD_leading _ _ _ hk]; rfl
      _ = entry s.bs (8 * k + j) := by rw [joined, getD_leading _ _ _ (by omega)]
  · exact exec_raises (i := .bssplit) accepted (require_raises (beq_eq_false_iff_ne.2 other))

end Sys2Proof.Proofs
end

section
/-! PROOFS. The matrix commands cell by cell: what a list of writes leaves in a cell, that MXFIND and MXFMT are the literal writes
of R172 and R177, and the ends of the stages that work cell by cell (R171 to R174, R176, R177, R180). -/

namespace Sys2Proof.Machine

open Sys2Proof.Spec (cellAt setCell mark)

/-! ### Writes to cells, one after another -/

theorem cellIndex_inj {r c r' c' : Nat} (hc : c < 21) (hc' : c' < 21) :
    cellIndex r c = cellIndex r' c' ↔ r = r' ∧ c = c' := by
  unfold cellIndex Config.size; omega

theorem cellAt_setCell (mx : Vector Cell 441) (x : Cell) {r c r' c' : Nat} (hr' : r' < 21) (hc' : c' < 21) (hc : c < 21) :
    cellAt (setCell mx r' c' x) r c = if r = r' ∧ c = c' then x else cellAt mx r c := by
  simp only [cellAt, setCell, entry_setEntry, cellIndex_lt hr' hc', and_true, cellIndex_inj hc hc']

/-- Writes `(b, r, c)` made in their order, each putting `b` into cell (r, c). -/
def writeCells {β : Type} (put : β → Cell → Cell) (writes : List (β × Nat × Nat)) (mx : Vector Cell 441) :
    Vector Cell 441 :=
  writes.foldl (fun mx w => setCell mx w.2.1 w.2.2 (put w.1 (cellAt mx w.2.1 w.2.2))) mx

section

variable {β : Type} {put : β → Cell → Cell} {writes : List (β × Nat × Nat)} {r c : Nat}

theorem writeCells_cons (w : β × Nat × Nat) (mx : Vector Cell 441) : writeCells put (w :: writes) mx =
    writeCells put writes (setCell mx w.2.1 w.2.2 (put w.1 (cellAt mx w.2.1 w.2.2))) := rfl

/-- Writes keep a cell that none of them is to. -/
theorem cellAt_writeCells_kept (inside : ∀ w ∈ writes, w.2.1 < 21 ∧ w.2.2 < 21) (hc : c < 21) (mx : Vector Cell 441)
    (other : ∀ b, (b, r, c) ∉ writes) : cellAt (writeCells put writes mx) r c = cellAt mx r c := by
  induction writes generalizing mx with
  | nil => rfl
  | cons w writes ih =>
    obtain ⟨⟨hr', hc'⟩, inside⟩ := List.forall_mem_cons.1 inside
    rw [writeCells_cons, ih inside _ fun b mem => other b (List.mem_cons_of_mem w mem), cellAt_setCell _ _ hr' hc' hc, if_neg]
    rintro ⟨rfl, rfl⟩
    exact other w.1 List.mem_cons_self

/-- Writes that put the same into a cell leave it there. -/
theorem cellAt_writeCells_written {b : β} (idem : ∀ x, put b (put b x) = put b x)
    (inside : ∀ w ∈ writes, w.2.1 < 21 ∧ w.2.2 < 21) (hc : c < 21) (mx : Vector Cell 441) (mem : (b, r, c) ∈ writes)
    (same : ∀ a, (a, r, c) ∈ writes → a = b) : cellAt (writeCells put writes mx) r c = put b (cellAt mx r c) := by
  induction writes generalizing mx with
  | nil => cases mem
  | cons w writes ih =>
    obtain ⟨⟨hr', hc'⟩, inside'⟩ := List.forall_mem_cons.1 inside
    have same' : ∀ a, (a, r, c) ∈ writes → a = b := fun a h => same a (List.mem_cons_of_mem w h)
    have now := cellAt_setCell mx (put w.1 (cellAt mx w.2.1 w.2.2)) (r := r) hr' hc' hc
    rw [writeCells_cons]
    by_cases here : w = (b, r, c)
    · subst here
      rw [if_pos ⟨rfl, rfl⟩] at now
      by_cases again : (b, r, c) ∈ writes
      · rw [ih inside' _ again same', now, idem]
      · rw [cellAt_writeCells_kept inside' hc _ fun a h => again (same' a h ▸ h), now]
    · rw [if_neg] at now
      · rw [ih inside' _ (List.mem_of_ne_of_mem (Ne.symm here) mem) same', now]
      · rintro ⟨rfl, rfl⟩
        exact here (Prod.ext (same w.1 List.mem_cons_self) rfl)

/-- Where each write puts the value of its cell, and each cell with a value is written, the writes are one pass over the cells. -/
theorem mapCells_eq_writeCells {f : Nat → Nat → Cell → Cell} {value : Nat → Nat → Option β}
    (cell : ∀ r c x, f r c x = (value r c).elim x (put · x)) (idem : ∀ b x, put b (put b x) = put b x)
    (inside : ∀ w ∈ writes, w.2.1 < 21 ∧ w.2.2 < 21) (agrees : ∀ w ∈ writes, value w.2.1 w.2.2 = some w.1)
    (written : ∀ {r c b}, r < 21 → c < 21 → value r c = some b → (b, r, c) ∈ writes) (mx : Vector Cell 441) :
    mapCells f mx = writeCells put writes mx := by
  refine matrix_ext fun r c hr hc => ?_
  have value_of_mem : ∀ b, (b, r, c) ∈ writes → value r c = some b := fun b mem => agrees _ mem
  rw [cellAt_mapCells _ _ hr hc, cell]
  cases h : value r c with
  | none => exact (cellAt_writeCells_kept inside hc mx fun b mem => nomatch h.symm.trans (value_of_mem b mem)).symm
  | some b =>
    exact (cellAt_writeCells_written (idem b) inside hc mx (written hr hc h) fun a mem =>
      Option.some.inj ((value_of_mem a mem).symm.trans h)).symm

end

/-! ### MXFIND's loops (R172) -/

/-- What MXFIND does to a cell that it gives the value `v`. -/
def putFinder (v : Bool) (x : Cell) : Cell := { x with v := v, r := true }

theorem findCell_eq_elim (r c : Nat) (x : Cell) : findCell r c x = (finderValue r c).elim x (putFinder · x) := by
  unfold findCell; cases finderValue r c <;> rfl

/-- The write of R172's loops at offset (i - 1, j - 1) from a finder's origin, if it is in the matrix. -/
def findWrite (o : Int × Int) (i j : Nat) : List (Bool × Nat × Nat) :=
  let dr : Int := (i : Int) - 1
  let dc : Int := (j : Int) - 1
  if 0 ≤ o.1 + dr ∧ o.1 + dr ≤ 20 ∧ 0 ≤ o.2 + dc ∧ o.2 + dc ≤ 20 then
    [((finderOffset dr dc).getD false, (o.1 + dr).toNat, (o.2 + dc).toNat)]
  else []

/-- The writes of the three nested loops of R172 in their order. -/
def findWrites : List (Bool × Nat × Nat) :=
  finderOrigins.flatMap fun o => (List.range 9).flatMap fun i => (List.range 9).flatMap (findWrite o i)

/-- The value R172's loops compute at an offset, which they use where the cell is in the matrix. -/
theorem getD_finderOffset (dr dc : Int) : (finderOffset dr dc).getD false =
    if 0 ≤ dr ∧ dr ≤ 6 ∧ 0 ≤ dc ∧ dc ≤ 6 then
      decide (dr = 0 ∨ dr = 6 ∨ dc = 0 ∨ dc = 6) || decide (2 ≤ dr ∧ dr ≤ 4 ∧ 2 ≤ dc ∧ dc ≤ 4)
    else false := by
  unfold finderOffset
  split_ifs
  · rfl
  · rfl
  · omega
  · rfl

/-- The body of R172's loops makes its write. -/
theorem findAt_eq (o : Int × Int) (mx : Vector Cell 441) (i j : Nat) :
    Spec.findAt o.1 o.2 mx i j = writeCells putFinder (findWrite o i j) mx := by
  unfold Spec.findAt findWrite
  dsimp only
  rw [getD_finderOffset]
  split <;> rfl

theorem findLoop_eq (mx : Vector Cell 441) : Spec.findLoop mx = writeCells putFinder findWrites mx := by
  simp only [Spec.findLoop, findAt_eq, writeCells, findWrites, List.foldl_flatMap]
  rfl

theorem findWrites_inside : ∀ w ∈ findWrites, w.2.1 < 21 ∧ w.2.2 < 21 := by decide +kernel

/-- Each write of MXFIND's loops is the value of its cell: a check of the 192 writes. -/
theorem finderValue_of_mem : ∀ w ∈ findWrites, finderValue w.2.1 w.2.2 = some w.1 := by decide +kernel

/-- MXFIND's loops write each cell that has a value. -/
theorem mem_findWrites {r c : Nat} {v : Bool} (hr : r < 21) (hc : c < 21) (h : finderValue r c = some v) :
    (v, r, c) ∈ findWrites := by
  obtain ⟨o, origin, value⟩ := List.exists_of_findSome?_eq_some h
  have offset : -1 ≤ (r : Int) - o.1 ∧ (r : Int) - o.1 ≤ 7 ∧ -1 ≤ (c : Int) - o.2 ∧ (c : Int) - o.2 ≤ 7 := by
    unfold finderOffset at value
    split at value
    next range => exact range
    next => contradiction
  obtain ⟨i, hi⟩ := Int.eq_ofNat_of_zero_le (show 0 ≤ (r : Int) - o.1 + 1 by omega)
  obtain ⟨j, hj⟩ := Int.eq_ofNat_of_zero_le (show 0 ≤ (c : Int) - o.2 + 1 by omega)
  have write : findWrite o i j = [(v, r, c)] := by
    unfold findWrite
    rw [← hi, ← hj]
    simp only [add_sub_cancel_right, add_sub_cancel, value, Int.toNat_natCast, Option.getD_some]
    exact if_pos (by omega)
  exact List.mem_flatMap.2 ⟨o, origin, List.mem_flatMap.2 ⟨i, List.mem_range.2 (by omega),
    List.mem_flatMap.2 ⟨j, List.mem_range.2 (by omega), by rw [write]; exact List.mem_cons_self⟩⟩⟩

/-- MXFIND cell by cell is the loops of R172. -/
theorem mapCells_findCell (mx : Vector Cell 441) : mapCells findCell mx = Spec.findLoop mx := by
  rw [findLoop_eq]
  exact mapCells_eq_writeCells findCell_eq_elim (fun _ _ => rfl) findWrites_inside finderValue_of_mem mem_findWrites mx

/-! ### MXFMT's writes (R177) -/

/-- What MXFMT does to a cell that it gives bit `i` of FMT. -/
def putFormat (fmt : Word) (i : Nat) (x : Cell) : Cell := { x with v := fmt.getLsbD i }

theorem formatCell_eq_elim (fmt : Word) (r c : Nat) (x : Cell) :
    formatCell fmt r c x = (formatBit r c).elim x (putFormat fmt · x) := by
  unfold formatCell; cases formatBit r c <;> rfl

/-- The loops of R177 go through the printed table. -/
theorem formatCells_eq : Spec.formatCells =
    (List.range 6).map (fun i => (i, i, 8)) ++ [(6, 7, 8), (7, 8, 8), (8, 8, 7)] ++
      (List.range' 9 6).map (fun i => (i, 8, 14 - i)) ++ (List.range 8).map (fun i => (i, 8, 20 - i)) ++
      (List.range' 8 7).map (fun i => (i, 6 + i, 8)) ++ [(15, 13, 8)] := by decide

theorem formatLoop_eq (fmt : Word) (mx : Vector Cell 441) :
    Spec.formatLoop fmt mx = writeCells (putFormat fmt) Spec.formatCells mx := by
  simp only [formatCells_eq, writeCells, List.foldl_append, List.foldl_map, List.foldl_cons, List.foldl_nil]
  rfl

theorem formatCells_inside : ∀ w ∈ Spec.formatCells, w.2.1 < 21 ∧ w.2.2 < 21 := by decide

/-- Each cell of the printed table takes the bit it is tabled with. -/
theorem formatBit_of_mem : ∀ w ∈ Spec.formatCells, formatBit w.2.1 w.2.2 = some w.1 := by decide

/-- The printed table has each cell that MXFMT writes. -/
theorem mem_formatCells {r c i : Nat} (hr : r < 21) (hc : c < 21) (h : formatBit r c = some i) :
    (i, r, c) ∈ Spec.formatCells := by
  have all : ∀ r < 21, ∀ c < 21, (formatBit r c).all fun i => decide ((i, r, c) ∈ Spec.formatCells) := by decide +kernel
  simpa [h] using all r hr c hc

theorem formatCell_of_mem {i r c : Nat} (h : (i, r, c) ∈ Spec.formatCells) (fmt : Word) (x : Cell) :
    formatCell fmt r c x = { x with v := fmt.getLsbD i } := by
  have bit : formatBit r c = some i := formatBit_of_mem _ h
  rw [formatCell_eq_elim, bit]; rfl

theorem formatCell_of_notMem {r c : Nat} (hr : r < 21) (hc : c < 21) (h : ∀ i, (i, r, c) ∉ Spec.formatCells) (fmt : Word)
    (x : Cell) : formatCell fmt r c x = x := by
  have none : formatBit r c = none := Option.eq_none_iff_forall_ne_some.2 fun i bit => h i (mem_formatCells hr hc bit)
  rw [formatCell_eq_elim, none]; rfl

/-- MXFMT cell by cell is the writes of R177. -/
theorem mapCells_formatCell (fmt : Word) (mx : Vector Cell 441) :
    mapCells (formatCell fmt) mx = Spec.formatLoop fmt mx := by
  rw [formatLoop_eq]
  exact mapCells_eq_writeCells (formatCell_eq_elim fmt) (fun _ _ => rfl) formatCells_inside formatBit_of_mem mem_formatCells mx

/-! ### The cells of MXTIME, MXFRSV and MXMASK (R173, R174, R176) -/

theorem timeCell_eq_index (r c : Nat) (x : Cell) : timeCell r c x =
    if r = 6 ∧ 8 ≤ c ∧ c ≤ 12 then ⟨(c + 1) % 2 == 1, true, x.d⟩
    else if c = 6 ∧ 8 ≤ r ∧ r ≤ 12 then ⟨(r + 1) % 2 == 1, true, x.d⟩
    else x := by
  have index : ∀ i, timingIndex i = true ↔ 8 ≤ i ∧ i ≤ 12 := fun i => by
    rw [timingIndex, decide_eq_true_iff, Config.size]
    omega
  unfold timeCell timingValue
  simp only [index]
  split_ifs <;> rfl

theorem reserveCell_eq_area {r c : Nat} (hr : r < 21) (hc : c < 21) (x : Cell) : reserveCell r c x =
    if (r = 8 ∧ (c ≤ 8 ∧ c ≠ 6 ∨ 13 ≤ c)) ∨ (c = 8 ∧ (r ≤ 8 ∧ r ≠ 6 ∨ 13 ≤ r)) then { x with r := true }
    else x := by
  unfold reserveCell formatArea
  simp only [decide_eq_true_iff]
  exact if_congr (by omega) rfl rfl

theorem maskCell_eq (r c : Nat) (x : Cell) :
    maskCell r c x = if x.d = true ∧ (r + c) % 2 = 0 then { x with v := !x.v } else x := by
  simp only [maskCell, Bool.and_eq_true, decide_eq_true_iff]

/-! ### The ends of the stages that work cell by cell (R170 to R177) -/

section

variable {s : State} (accepted : s.err = false)
include accepted

theorem exec_mxinit :
    exec .mxinit s = .next { s with mx := tabulate 441 fun _ => ⟨false, false, false⟩, mxs := 1, done := true } := by
  rw [← mapCells_const _ s.mx]
  exact exec_completes (i := .mxinit) accepted rfl

/-- A stage command after the stage before its own (R170). -/
theorem exec_stage_completes {i : Instr} {stage : BitVec 3} {mx : Vector Cell 441}
    (rule : bodyOf i (s.setDone false) = requireStage stage i (s.setDone false) (.done ((s.setDone false).setMatrix mx stage)))
    (after : s.mxs = stage - 1) : exec i s = .next { s with mx := mx, mxs := stage, done := true } :=
  exec_completes accepted (rule.trans (require_passes (beq_iff_eq.2 after) rfl))

/-- A stage command at any stage but the one before its own (R170, R226). -/
theorem exec_stage_raises {i : Instr} {stage : BitVec 3} {rest : Ran}
    (rule : bodyOf i (s.setDone false) = requireStage stage i (s.setDone false) rest) (other : s.mxs ≠ stage - 1) :
    exec i s = .next (Spec.failed s .sequence (opcode i) 0x0003) :=
  exec_raises accepted (rule.trans (require_raises (beq_eq_false_iff_ne.2 other)))

end

/-! ### The matrix after stage 4 (R180) -/

theorem cell_of_cellFits_four : ∀ m ≤ 6, ∀ v r d, Spec.cellFits 4 m ⟨v, r, d⟩ = true →
    (⟨v, r, d⟩ : Cell) = ⟨m == 1 || m == 4, m != 0, false⟩ := by decide

theorem fitsStage_framed : FitsStage 4 framedMatrix :=
  fitsStage_reserve (fitsStage_time (fitsStage_find fitsStage_clear))

theorem cellAt_of_fitsStage_four {mx : Vector Cell 441} (fits : FitsStage 4 mx) {r c : Nat} (hr : r < 21) (hc : c < 21) :
    cellAt mx r c = ⟨mark r c == 1 || mark r c == 4, mark r c != 0, false⟩ :=
  cell_of_cellFits_four _ (mark_le r hr c hc) _ _ _ (fits r c hr hc)

theorem execAll_cons {i : Instr} {s t : State} (run : exec i s = .next t) (is : List Instr) :
    Spec.execAll (i :: is) s = Spec.execAll is t := by
  rw [Spec.execAll, run]

/-- The first four commands leave the matrix of stage 4, whatever was there (R171 to R174). -/
theorem execAll_framed {s : State} (accepted : s.err = false) :
    Spec.execAll [.mxinit, .mxfind, .mxtime, .mxfrsv] s = .next { s with mx := framedMatrix, mxs := 4, done := true } := by
  have accepted' (mx : Vector Cell 441) (stage : BitVec 3) : { s with mx := mx, mxs := stage, done := true }.err = false :=
    accepted
  rw [execAll_cons (exec_mxinit accepted),
    execAll_cons (exec_stage_completes (i := .mxfind) (stage := 2) (accepted' _ 1) rfl rfl),
    execAll_cons (exec_stage_completes (i := .mxtime) (stage := 3) (accepted' _ 2) rfl rfl),
    execAll_cons (exec_stage_completes (i := .mxfrsv) (stage := 4) (accepted' _ 3) rfl rfl), framedMatrix]
  rfl

end Sys2Proof.Machine

namespace Sys2Proof.Proofs

open Sys2Proof.Machine

/-- Settles O35: every cell becomes the same. -/
theorem mxinitClearsTheMatrix : Obligations.MxinitClearsTheMatrix := by
  unfold Obligations.MxinitClearsTheMatrix
  exact ⟨decode_eq_ok_iff (i := .mxinit) rfl, fun s accepted =>
    ⟨_, exec_mxinit accepted, fun r c hr hc => entry_tabulate _ _ (cellIndex_lt hr hc)⟩⟩

/-- Settles O36: the cells the literal loops write are those with a finder value, and the picture marks them. -/
theorem mxfindPlacesTheFinders : Obligations.MxfindPlacesTheFinders := by
  unfold Obligations.MxfindPlacesTheFinders
  refine ⟨decode_eq_ok_iff (i := .mxfind) rfl, fun s accepted stage => ?_,
    fun s accepted => exec_stage_raises (i := .mxfind) accepted rfl⟩
  exact ⟨_, exec_stage_completes (i := .mxfind) accepted rfl stage, mapCells_findCell s.mx,
    fun r c hr hc => (cellAt_mapCells _ s.mx hr hc).trans (findCell_eq hr hc _)⟩

/-- Settles O37: the timing lines cell by cell. -/
theorem mxtimePlacesTheTimingLines : Obligations.MxtimePlacesTheTimingLines := by
  unfold Obligations.MxtimePlacesTheTimingLines
  refine ⟨decode_eq_ok_iff (i := .mxtime) rfl, fun s accepted stage => ?_,
    fun s accepted => exec_stage_raises (i := .mxtime) accepted rfl⟩
  exact ⟨_, exec_stage_completes (i := .mxtime) accepted rfl stage,
    fun r c hr hc => (cellAt_mapCells _ s.mx hr hc).trans (timeCell_eq_index r c _)⟩

/-- Settles O38: the format cells cell by cell. -/
theorem mxfrsvReservesTheFormatCells : Obligations.MxfrsvReservesTheFormatCells := by
  unfold Obligations.MxfrsvReservesTheFormatCells
  refine ⟨decode_eq_ok_iff (i := .mxfrsv) rfl, fun s accepted stage => ?_,
    fun s accepted => exec_stage_raises (i := .mxfrsv) accepted rfl⟩
  exact ⟨_, exec_stage_completes (i := .mxfrsv) accepted rfl stage,
    fun r c hr hc => (cellAt_mapCells _ s.mx hr hc).trans (reserveCell_eq_area hr hc _)⟩

/-- Settles O39: the four commands run, and a cell that fits stage 4 is the one its mark prints. -/
theorem matrixAfterStageFourIsThePicture : Obligations.MatrixAfterStageFourIsThePicture := by
  unfold Obligations.MatrixAfterStageFourIsThePicture
  exact fun s accepted => ⟨_, execAll_framed accepted, accepted, rfl,
    fun r c hr hc => cellAt_of_fitsStage_four fitsStage_framed hr hc⟩

/-- Settles O42: the mask cell by cell; the count is a check of the printed order. -/
theorem mxmaskFlipsTheEvenDataCells : Obligations.MxmaskFlipsTheEvenDataCells := by
  unfold Obligations.MxmaskFlipsTheEvenDataCells
  refine ⟨decode_eq_ok_iff (i := .mxmask) rfl, fun s accepted stage => ?_,
    fun s accepted => exec_stage_raises (i := .mxmask) accepted rfl, by decide +kernel⟩
  exact ⟨_, exec_stage_completes (i := .mxmask) accepted rfl stage,
    fun r c hr hc => (cellAt_mapCells _ s.mx hr hc).trans (maskCell_eq r c _)⟩

/-- Settles O43: the literal writes are those of the printed table, which tables each cell at most once. -/
theorem mxfmtWritesTheFormatBits : Obligations.MxfmtWritesTheFormatBits := by
  unfold Obligations.MxfmtWritesTheFormatBits
  refine ⟨decode_eq_ok_iff (i := .mxfmt) rfl, fun s accepted stage => ?_,
    fun s accepted => exec_stage_raises (i := .mxfmt) accepted rfl⟩
  refine ⟨_, exec_stage_completes (i := .mxfmt) accepted rfl stage, mapCells_formatCell s.fmt s.mx, fun i r c mem => ?_,
    fun r c hr hc other => ?_⟩
  · obtain ⟨hr, hc⟩ := formatCells_inside _ mem
    exact (cellAt_mapCells _ s.mx hr hc).trans (formatCell_of_mem mem s.fmt _)
  · exact (cellAt_mapCells _ s.mx hr hc).trans (formatCell_of_notMem hr hc other s.fmt _)

end Sys2Proof.Proofs
end

section
/-! PROOFS. MXPLACE: in a matrix reserved as the picture its free cells are the printed ones in the printed order, so each takes
the bit of its place; and the ends of the command (R175, R178, R179). -/

namespace Sys2Proof.Machine

open Sys2Proof.Spec (cellAt mark visitOrder)

/-! ### The visiting order (R179) -/

/-- The matrix is reserved as the picture of R180: its free cells are the unmarked ones. -/
def ReservedAsPicture (mx : Vector Cell 441) : Prop := ∀ r c, r < 21 → c < 21 → (cellAt mx r c).r = (mark r c != 0)

/-- The printed order is the walk, less the marked cells. -/
theorem walk_unmarked : (walk.filter fun k => Spec.markAt k == 0) = visitOrder.map fun rc => cellIndex rc.1 rc.2 := by
  decide +kernel

theorem visitOrder_unmarked : ∀ rc ∈ visitOrder, (rc.1 < 21 ∧ rc.2 < 21) ∧ mark rc.1 rc.2 = 0 := by decide +kernel

theorem length_visitOrder : visitOrder.length = 208 := by decide +kernel

/-- The cell of stream bit `k`. -/
theorem getD_visitOrder {k : Nat} (hk : k < 208) :
    visitOrder.getD k (0, 0) = visitOrder[k]'(hk.trans_eq length_visitOrder.symm) :=
  List.getD_eq_getElem _ _ _

section

variable {mx : Vector Cell 441} (picture : ReservedAsPicture mx)
include picture

theorem freeCells_eq_visitOrder : freeCells mx = visitOrder.map fun rc => cellIndex rc.1 rc.2 := by
  rw [freeCells_eq, ← walk_unmarked]
  refine List.filter_congr fun k hk => ?_
  have := walk_lt k hk
  have reserved := picture (k / 21) (k % 21) (by omega) (by omega)
  have index : cellIndex (k / 21) (k % 21) = k := by unfold cellIndex Config.size; omega
  rw [cellAt, index] at reserved
  rw [reserved]
  exact Bool.not_not _

/-- The `k`-th printed cell takes bit `k` of the stream and becomes a reserved data cell. -/
theorem cellAt_placeBits_visited (stream : List Bool) {k : Nat} (hk : k < 208) :
    cellAt (placeBits stream mx) (visitOrder.getD k (0, 0)).1 (visitOrder.getD k (0, 0)).2 =
      ⟨stream.getD k false, true, true⟩ := by
  have free := freeCells_eq_visitOrder picture
  have length : k < (freeCells mx).length := by rw [free, List.length_map, length_visitOrder]; exact hk
  have place := entry_placeBits_free stream mx k length
  simp only [free, List.getElem_map] at place
  rw [getD_visitOrder hk]
  exact place

/-- A marked cell is kept. -/
theorem cellAt_placeBits_marked (stream : List Bool) {r c : Nat} (hr : r < 21) (hc : c < 21) (marked : mark r c ≠ 0) :
    cellAt (placeBits stream mx) r c = cellAt mx r c := by
  refine entry_placeBits_kept stream mx _ (cellIndex_lt hr hc) fun free => ?_
  have reserved : (cellAt mx r c).r = true := (picture r c hr hc).trans (bne_iff_ne.2 marked)
  exact Bool.false_ne_true (((mem_freeCells mx _).1 free).2.symm.trans reserved)

end

/-! ### The codewords' bits (R178) -/

/-- Codeword `n` of the stream: first the data codewords, then the ECC codewords. -/
def codeword (s : State) (n : Nat) : Byte := if n < s.dcwn.toNat then entry s.dcw n else entry s.ecc (n - s.dcwn.toNat)

theorem getD_cwbits {s : State} (data_fits : s.dcwn.toNat ≤ 32) (ecc_fits : s.eccn.toNat ≤ 32) {n j : Nat}
    (hn : n < s.dcwn.toNat + s.eccn.toNat) (hj : j < 8) :
    (cwbits s).getD (8 * n + j) false = (codeword s n).getLsbD (7 - j) := by
  have data : (dataOperand s).length = s.dcwn.toNat := length_dataOperand data_fits
  have ecc : (eccOperand s).length = s.eccn.toNat := (length_leading _ _).trans (Nat.min_eq_left ecc_fits)
  have whole : n < (dataOperand s ++ eccOperand s).length := by rw [List.length_append, data, ecc]; exact hn
  refine (getD_flatMap_msb8 _ whole hj).trans (congrArg (BitVec.getLsbD · (7 - j)) ?_)
  unfold codeword
  split
  next inside => rw [List.getD_append _ _ _ _ (data ▸ inside), dataOperand, getD_leading _ _ _ inside]
  next behind =>
    rw [List.getD_append_right _ _ _ _ (by omega), data, eccOperand, getD_leading _ _ _ (by omega)]

/-! ### The ends of MXPLACE (R175) -/

section

variable {s : State} (accepted : s.err = false) (stage : s.mxs = 4)
include accepted stage

theorem exec_mxplace (length : 8 * (s.dcwn.toNat + s.eccn.toNat) = 208) :
    exec .mxplace s = .next { s with mx := placeBits (cwbits s) s.mx, mxs := 5, done := true } :=
  exec_completes (i := .mxplace) accepted
    (require_passes (beq_iff_eq.2 stage) (require_passes (decide_eq_true length) rfl))

theorem exec_mxplace_raises (other : 8 * (s.dcwn.toNat + s.eccn.toNat) ≠ 208) : exec .mxplace s =
    .next (Spec.failed s .length 0x34 (BitVec.ofNat 16 (8 * (s.dcwn.toNat + s.eccn.toNat)))) :=
  exec_raises (i := .mxplace) accepted
    (require_passes (beq_iff_eq.2 stage) (require_raises (decide_eq_false other)))

end

end Sys2Proof.Machine

namespace Sys2Proof.Proofs

open Sys2Proof.Machine

/-- Settles O40: the machine's placement is the literal loop, behind the guards on the stage and on the length. -/
theorem mxplaceRunsTheZigzag : Obligations.MxplaceRunsTheZigzag := by
  unfold Obligations.MxplaceRunsTheZigzag
  refine ⟨decode_eq_ok_iff (i := .mxplace) rfl, fun s accepted stage length => ?_,
    fun s accepted => exec_stage_raises (i := .mxplace) accepted rfl, fun s => exec_mxplace_raises⟩
  rw [exec_mxplace accepted stage length, placeBits_eq_loop]
  rfl

/-- Settles O41: the free cells of the picture are the printed ones, in their order; bit `8 n + j` of the stream is bit `7 - j` of
codeword `n`. -/
theorem placementFollowsThePrintedOrder : Obligations.PlacementFollowsThePrintedOrder := by
  unfold Obligations.PlacementFollowsThePrintedOrder
  refine ⟨fun s accepted stage count picture => ?_, fun stream mx => ⟨placeBits_eq_loop stream mx, fun picture => ?_⟩⟩
  · refine ⟨_, exec_mxplace accepted stage (by omega), fun n j hn hj => ?_, fun r c => cellAt_placeBits_marked picture _⟩
    rw [cellAt_placeBits_visited picture _ (by omega), getD_cwbits (by omega) (by omega) (by omega) hj]
    rfl
  · exact ⟨fun k => cellAt_placeBits_visited picture stream, fun r c => cellAt_placeBits_marked picture stream⟩

end Sys2Proof.Proofs
end

section
/-! PROOFS. The matrix a completed ENCODE leaves, cell by cell: the fixed pattern, the bits of FMT, and the masked stream; hence
that different payloads differ in a data cell and nowhere else (R177, R181). -/

namespace Sys2Proof.Machine

open Sys2Proof.Spec (cellAt mark visitOrder)

/-- An ENCODE that leaves no error has found a payload of bytes that fits, and leaves the matrix of its inputs (R202). -/
theorem exec_encode_succeeds {s t : State} (accepted : s.err = false) (run : exec .encode s = .next t) (success : t.err = false) :
    firstUnrepresentable (payOperand s) = none ∧ (encodeInput s).raw.length ≤ 152 ∧ t.mx = (encodeInput s).matrix := by
  obtain ⟨pending, -⟩ | ⟨-, u, effect, rfl⟩ | ⟨e, u, -, -, rfl⟩ := exec_cases run
  · exact nomatch accepted.symm.trans pending
  · cases effect with
    | encode gfv representable fits => exact ⟨representable, fits, rfl⟩
  · exact nomatch success

/-! ### The cells whose mark fixes them (R181) -/

theorem flags_of_cellFits_seven : ∀ m ≤ 6, ∀ v r d, Spec.cellFits 7 m ⟨v, r, d⟩ = true →
    r = true ∧ d = (m == 0) := by decide

theorem fixed_of_cellFits_seven : ∀ m ≤ 6, m ≠ 0 → m ≠ 6 → ∀ v r d, Spec.cellFits 7 m ⟨v, r, d⟩ = true →
    (⟨v, r, d⟩ : Cell) = ⟨m == 1 || m == 4, true, false⟩ := by decide

/-- The format cells are the cells with mark 6 (R177). -/
theorem mark_eq_six_iff {r c : Nat} (hr : r < 21) (hc : c < 21) : mark r c = 6 ↔ ∃ i, (i, r, c) ∈ Spec.formatCells := by
  rw [← beq_iff_eq, ← isSome_formatBit r hr c hc, Option.isSome_iff_exists]
  exact ⟨fun ⟨i, bit⟩ => ⟨i, mem_formatCells hr hc bit⟩, fun ⟨i, mem⟩ => ⟨i, formatBit_of_mem _ mem⟩⟩

section

variable (x : EncodeInput) {r c : Nat} (hr : r < 21) (hc : c < 21)

include hr hc

/-- Every cell is reserved, and the data cells are the unmarked ones. -/
theorem cellAt_matrix_flags : (cellAt x.matrix r c).r = true ∧ (cellAt x.matrix r c).d = (mark r c == 0) :=
  flags_of_cellFits_seven _ (mark_le r hr c hc) _ _ _ (fitsStage_encoded x r c hr hc)

/-- A finder, separator or timing cell is dark where the picture is. -/
theorem cellAt_matrix_fixed (marked : mark r c ≠ 0) (other : mark r c ≠ 6) :
    cellAt x.matrix r c = ⟨mark r c == 1 || mark r c == 4, true, false⟩ :=
  fixed_of_cellFits_seven _ (mark_le r hr c hc) marked other _ _ _ (fitsStage_encoded x r c hr hc)

omit hr hc

/-- A format cell has its bit of FMT. -/
theorem cellAt_matrix_format {i : Nat} (mem : (i, r, c) ∈ Spec.formatCells) :
    cellAt x.matrix r c = ⟨x.fmt.getLsbD i, true, false⟩ := by
  obtain ⟨hr, hc⟩ : r < 21 ∧ c < 21 := formatCells_inside _ mem
  obtain ⟨reserved, data⟩ := cellAt_matrix_flags x hr hc
  have value : (cellAt x.matrix r c).v = x.fmt.getLsbD i := by
    rw [EncodeInput.matrix, cellAt_mapCells _ _ hr hc, formatCell_of_mem mem]
  rw [(mark_eq_six_iff hr hc).2 ⟨i, mem⟩] at data
  calc cellAt x.matrix r c = ⟨(cellAt x.matrix r c).v, (cellAt x.matrix r c).r, (cellAt x.matrix r c).d⟩ := rfl
    _ = ⟨x.fmt.getLsbD i, true, false⟩ := by rw [value, reserved, data]; rfl

end

/-! ### The data cells (R175, R176) -/

/-- The bits MXPLACE puts into the matrix (R178). -/
def EncodeInput.stream (x : EncodeInput) : List Bool := (x.data ++ x.ecc).flatMap msb8

theorem reservedAsPicture_framed : ReservedAsPicture framedMatrix := fun r c hr hc => by
  rw [cellAt_of_fitsStage_four fitsStage_framed hr hc]

/-- An unmarked cell has the bit placed in it, flipped where row and column have an even sum. -/
theorem cellAt_matrix_data (x : EncodeInput) {r c : Nat} (hr : r < 21) (hc : c < 21) (unmarked : mark r c = 0) {b : Bool}
    (placed : cellAt (placeBits x.stream framedMatrix) r c = ⟨b, true, true⟩) :
    (cellAt x.matrix r c).v = (b ^^ decide ((r + c) % 2 = 0)) := by
  obtain ⟨_, format⟩ := formatCell_eq hr hc (cellAt (mapCells maskCell (placeBits x.stream framedMatrix)) r c) x.fmt
  rw [EncodeInput.matrix, ← EncodeInput.stream, cellAt_mapCells _ _ hr hc, format, if_neg (by omega), cellAt_mapCells _ _ hr hc,
    placed, maskCell_eq]
  by_cases even : (r + c) % 2 = 0
  · simp [even]
  · simp [even]

/-- Streams that differ in bit `k` give matrices that differ in the `k`-th printed cell. -/
theorem cellAt_matrix_ne {x y : EncodeInput} {k : Nat} (hk : k < 208) (differ : x.stream.getD k false ≠ y.stream.getD k false) :
    ∃ r c, r < 21 ∧ c < 21 ∧ mark r c = 0 ∧ (cellAt x.matrix r c).v ≠ (cellAt y.matrix r c).v := by
  obtain ⟨⟨hr, hc⟩, unmarked⟩ := visitOrder_unmarked _ (getD_visitOrder hk ▸ List.getElem_mem _)
  refine ⟨_, _, hr, hc, unmarked, ?_⟩
  rw [cellAt_matrix_data x hr hc unmarked (cellAt_placeBits_visited reservedAsPicture_framed _ hk),
    cellAt_matrix_data y hr hc unmarked (cellAt_placeBits_visited reservedAsPicture_framed _ hk)]
  exact fun same => differ (Bool.xor_left_inj.1 same)

/-- The stream begins with the raw one (R150, R152, R155, R178). -/
theorem raw_isPrefix_stream {x : EncodeInput} (fits : x.raw.length ≤ 152) : x.raw <+: x.stream := by
  have padded : x.padded.length = 8 * 19 := length_pad rfl fits
  have data : x.data.flatMap msb8 = x.padded := flatMap_splitCodewords padded
  rw [EncodeInput.stream, List.flatMap_append, data]
  exact (isPrefix_pad x.raw _).trans (List.prefix_append _ _)

theorem getD_of_isPrefix {α : Type} {l l' : List α} (h : l <+: l') {k : Nat} (hk : k < l.length) (d : α) :
    l'.getD k d = l.getD k d := by
  obtain ⟨rest, rfl⟩ := h
  exact List.getD_append _ _ _ _ hk

/-- Bit `j` of payload entry `i`, the most significant first, stands in the stream at `12 + 8 i + j` (R150). -/
theorem getD_stream_payload {s : State} (fits : (encodeInput s).raw.length ≤ 152) {i j : Nat} (hi : i < s.plen.toNat)
    (hj : j < 8) :
    (encodeInput s).stream.getD (12 + 8 * i + j) false = (entry s.pay i).getLsbD (7 - j) := by
  have length := length_raw s
  rw [getD_of_isPrefix (raw_isPrefix_stream fits) (by omega), ← getD_leading s.pay _ _ hi]
  exact getD_rawBits_payload s.plen (payOperand s) (hi.trans_eq (length_payOperand s).symm) hj

/-! ### Payload entries that differ (R151) -/

theorem entry_le_of_representable {s : State} (h : firstUnrepresentable (payOperand s) = none) {i : Nat} (hi : i < s.plen.toNat) :
    (entry s.pay i).toNat ≤ 255 := by
  have inside : i < (payOperand s).length := hi.trans_eq (length_payOperand s).symm
  have below := List.findIdx?_eq_none_iff.1 h _ (List.getElem_mem inside)
  rw [show (payOperand s)[i] = entry s.pay i from getElem_leading _ _ _ inside] at below
  exact Nat.le_of_not_lt (of_decide_eq_false below)

/-- Two characters that differ, both bytes, differ in one of their low eight bits. -/
theorem exists_bit_ne {a b : BitVec 9} (ha : a.toNat ≤ 255) (hb : b.toNat ≤ 255) (differ : a ≠ b) :
    ∃ j < 8, a.getLsbD (7 - j) ≠ b.getLsbD (7 - j) := by
  by_contra same
  push Not at same
  refine differ (BitVec.eq_of_getLsbD_eq fun i hi => ?_)
  by_cases low : i < 8
  · have := same (7 - i) (by omega)
    rwa [show 7 - (7 - i) = i by omega] at this
  · obtain rfl : i = 8 := by omega
    have top (x : BitVec 9) (hx : x.toNat ≤ 255) : x.getLsbD 8 = false :=
      Nat.testBit_lt_two_pow (show x.toNat < 2 ^ 8 by omega)
    rw [top a ha, top b hb]

end Sys2Proof.Machine

namespace Sys2Proof.Proofs

open Sys2Proof.Machine

/-- Settles O48: a completed ENCODE leaves the matrix of its inputs, whose cells are read off by their marks. -/
theorem encodeFixedCellsAreTheFixedPattern : Obligations.EncodeFixedCellsAreTheFixedPattern := by
  unfold Obligations.EncodeFixedCellsAreTheFixedPattern
  intro s t accepted run success
  obtain ⟨-, -, mx⟩ := exec_encode_succeeds accepted run success
  rw [mx]
  refine ⟨fun r c hr hc dark => ?_, fun r c hr hc light => ?_, fun i r c => cellAt_matrix_format _,
    fun r c hr hc unmarked => ?_⟩
  · rw [cellAt_matrix_fixed _ hr hc (by omega) (by omega)]
    obtain mark | mark := dark <;> rw [mark] <;> rfl
  · rw [cellAt_matrix_fixed _ hr hc (by omega) (by omega)]
    obtain mark | mark | mark := light <;> rw [mark] <;> rfl
  · obtain ⟨reserved, data⟩ := cellAt_matrix_flags (encodeInput s) hr hc
    exact ⟨reserved, data.trans (beq_iff_eq.2 unmarked)⟩

/-- Settles O49: marked cells are fixed by their mark or by FMT; a payload bit that differs stands in the stream, hence in a data
cell, and the mask flips it in both matrices alike. -/
theorem differentPayloadsDifferInDataCells : Obligations.DifferentPayloadsDifferInDataCells := by
  unfold Obligations.DifferentPayloadsDifferInDataCells
  rintro s₁ s₂ t₁ t₂ accepted₁ accepted₂ plen fmt ⟨i, hi, differ⟩ run₁ run₂ success₁ success₂
  obtain ⟨bytes₁, fits₁, mx₁⟩ := exec_encode_succeeds accepted₁ run₁ success₁
  obtain ⟨bytes₂, fits₂, mx₂⟩ := exec_encode_succeeds accepted₂ run₂ success₂
  have hi₂ : i < s₂.plen.toNat := plen ▸ hi
  rw [mx₁, mx₂]
  refine ⟨fun r c hr hc marked => ?_, ?_⟩
  · by_cases format : Spec.mark r c = 6
    · obtain ⟨b, mem⟩ := (mark_eq_six_iff hr hc).1 format
      rw [cellAt_matrix_format _ mem, cellAt_matrix_format _ mem]
      exact congrArg (fun fmt : Word => Cell.mk (fmt.getLsbD b) true false) fmt
    · rw [cellAt_matrix_fixed _ hr hc marked format, cellAt_matrix_fixed _ hr hc marked format]
  · obtain ⟨j, hj, bit⟩ :=
      exists_bit_ne (entry_le_of_representable bytes₁ hi) (entry_le_of_representable bytes₂ hi₂) differ
    have length := length_raw s₁
    refine cellAt_matrix_ne (k := 12 + 8 * i + j) (by omega) ?_
    rwa [getD_stream_payload fits₁ hi hj, getD_stream_payload fits₂ hi₂ hj]

end Sys2Proof.Proofs
end

section
/-! PROOFS. The pipeline and control commands: the ends of NOP, CLRERR and a failing ENCODE, and that commands issued one after another
end as their rules run as stages of one command do (R200 to R203). -/

namespace Sys2Proof.Machine

/-! ### A run of commands is a run of stages (R203) -/

/-- What the frame makes of the end of an accepted command's rule (R81): DONE set, or the error entered. -/
def Ran.framed : Ran → State
  | .done t => t.setDone true
  | .raised e t => t.enterError e

theorem exec_accepted {s : State} (i : Instr) (accepted : s.err = false) :
    exec i s = .next (bodyOf i (s.setDone false)).framed := by
  rw [exec_eq_runCommand]
  cases run : bodyOf i (s.setDone false) with
  | done t => exact runCommand_done (.inl accepted) run
  | raised e t => exact runCommand_raised (.inl accepted) run

/-- No rule writes DONE: that is the frame's (R81). -/
theorem Effect.done {s t : State} {i : Instr} (h : Effect s i t) : t.done = s.done := by cases h <;> rfl

/-- While an error is pending a run of commands without CLRERR changes nothing (R232). -/
theorem execAll_ignored {is : List Instr} {s : State} (pending : s.err = true) (plain : .clrerr ∉ is) :
    Spec.execAll is s = .next s := by
  induction is with
  | nil => rfl
  | cons i is ih =>
    rw [execAll_cons (exec_ignored pending (List.ne_of_not_mem_cons plain).symm), ih (List.not_mem_of_not_mem_cons plain)]

/-- Commands issued one after another, the first with DONE as a command before it left it, end as their rules run as stages do: between
two rules the frame only sets and clears DONE, and after an error the rest is ignored. -/
theorem execAll_eq_runStages {is : List Instr} {s : State} (plain : .clrerr ∉ is) (accepted : s.err = false)
    (clear : s.done = false) : Spec.execAll is (s.setDone true) = .next (runStages (is.map bodyOf) s).framed := by
  induction is generalizing s with
  | nil => rfl
  | cons i is ih =>
    have plain' := List.not_mem_of_not_mem_cons plain
    have first : exec i (s.setDone true) = .next (bodyOf i s).framed := by
      have same : (s.setDone true).setDone false = s := clear ▸ rfl
      rw [exec_accepted (s := s.setDone true) i accepted, same]
    rw [List.map_cons, execAll_cons first]
    obtain ⟨t, run, effect⟩ | ⟨e, u, run, -⟩ := bodyOf_endsPrecisely i s
    · rw [runStages_done run, run]
      exact ih plain' (effect.err_of_accepted (.inl accepted)) (effect.done.trans clear)
    · rw [runStages_raised run, run]
      exact execAll_ignored rfl plain'

/-- The first command of a run clears DONE, so what it was does not matter (R81). -/
theorem execAll_setDone {i : Instr} {is : List Instr} {s : State} (b : Bool) (accepted : s.err = false) :
    Spec.execAll (i :: is) (s.setDone b) = Spec.execAll (i :: is) s := by
  rw [execAll_cons (exec_accepted (s := s.setDone b) i accepted), execAll_cons (exec_accepted i accepted)]
  rfl

/-- ENCODE's stages are the rules of the script's commands (R202, R203). -/
theorem encodeStages_eq_map : encodeStages = Spec.encodeScript.map bodyOf := rfl

/-- With the tables built ENCODE's rule is its stages (R202). -/
theorem bodyEncode_eq_runStages {s : State} (gfv : s.gfv = true) : bodyEncode s = runStages encodeStages s :=
  require_passes gfv rfl

/-! ### The stages ENCODE fails in (R202) -/

/-- ENCODE fails in BSENC when a character is not representable. -/
theorem bodyEncode_raises_encoding {s : State} {i : Nat} (gfv : s.gfv = true)
    (found : firstUnrepresentable (payOperand s) = some i) : bodyEncode s = .raised (Raise.ofEncoding .bsenc i) s :=
  (bodyEncode_eq_runStages gfv).trans (runStages_raised (bodyBsenc_raised found))

/-- ENCODE fails in BSPAD, after BSENC, when the stream is longer than the symbol's capacity. -/
theorem bodyEncode_raises_capacity {s : State} (gfv : s.gfv = true) (representable : firstUnrepresentable (payOperand s) = none)
    (long : 18 ≤ s.plen.toNat) : bodyEncode s = .raised (Raise.ofCapacity .bspad (12 + 8 * s.plen.toNat))
      (s.setBits 0 (rawBits s.plen (payOperand s)) (12 + 8 * s.plen.toNat) .raw) := by
  have overflows : ¬ (encodeInput s).raw.length ≤ 152 := by rw [length_raw]; omega
  rw [← withRaw_eq, ← length_raw, bodyEncode_eq_runStages gfv, encodeStages, runStages_done (bodyBsenc_done representable),
    runStages_raised (bodyBspad_raised overflows)]

end Sys2Proof.Machine

namespace Sys2Proof.Proofs

open Sys2Proof.Machine

/-- Settles O6: one word decodes to NOP, whose rule has no effect, so only the frame's DONE is left. -/
theorem nopSetsDoneOnly : Obligations.NopSetsDoneOnly := by
  unfold Obligations.NopSetsDoneOnly
  exact fun s => ⟨decode_eq_ok_iff (i := .nop) rfl, fun accepted => exec_completes (i := .nop) (t := s.setDone false) accepted rfl,
    fun pending => exec_ignored pending nofun⟩

/-- Settles O7: CLRERR is accepted in every state, and ERR and INFO read the cleared fields. -/
theorem clrerrClearsTheError : Obligations.ClrerrClearsTheError := by
  unfold Obligations.ClrerrClearsTheError
  refine fun s => ⟨exec_clrerr s, fun t run => ?_⟩
  cases (exec_clrerr s).symm.trans run
  exact ⟨rfl, rfl⟩

/-- Settles O45: ENCODE runs the rules of the twelve commands as its stages, and the script ends as those stages do. -/
theorem encodeEqualsTheTwelveCommands : Obligations.EncodeEqualsTheTwelveCommands := by
  unfold Obligations.EncodeEqualsTheTwelveCommands
  intro s accepted gfv
  have plain : .clrerr ∉ Spec.encodeScript := by decide
  calc exec .encode s = .next (bodyEncode (s.setDone false)).framed := exec_accepted .encode accepted
    _ = .next (runStages (Spec.encodeScript.map bodyOf) (s.setDone false)).framed := by
      rw [bodyEncode_eq_runStages (s := s.setDone false) gfv, encodeStages_eq_map]
    _ = Spec.execAll Spec.encodeScript (s.setDone true) :=
      (execAll_eq_runStages (s := s.setDone false) plain accepted rfl).symm
    _ = Spec.execAll Spec.encodeScript s := execAll_setDone true accepted

/-- Settles O47: the guard on GFV fails, BSENC raises before it writes, or BSPAD raises in the state BSENC left. -/
theorem encodeFailures : Obligations.EncodeFailures := by
  unfold Obligations.EncodeFailures
  refine ⟨fun s accepted gfv => ?_, fun s i accepted gfv hi large lowest => ?_, fun s accepted gfv long bytes => ?_⟩
  · exact exec_raises (i := .encode) accepted (require_raises gfv)
  · exact exec_raises (i := .encode) accepted
      (bodyEncode_raises_encoding (s := s.setDone false) gfv (firstUnrepresentable_payOperand_eq_some hi large lowest))
  · have rule := bodyEncode_raises_capacity (s := s.setDone false) gfv (firstUnrepresentable_payOperand_eq_none bytes) long
    have length : (rawBits s.plen (payOperand s)).length = 12 + 8 * s.plen.toNat := by rw [length_rawBits, length_payOperand]
    have small := s.plen.isLt
    exact ⟨_, (exec_accepted .encode accepted).trans (congrArg (Host.Outcome.next ·.framed) rule),
      writeRun_zero_spec s.bs length (by omega)⟩

end Sys2Proof.Proofs
end

section
/-! PROOFS. Exceptions: the stage an error records, what a failing command leaves, ILLEGAL, and the interrupt line (R27, R224, R225,
R230). -/

namespace Sys2Proof.Machine

/-! ### The stage an error records (R27, R224) -/

/-- If a rule raises, its error names command `i` as the stage. -/
def Ran.RecordsStage (i : Instr) : Ran → Prop
  | .done _ => True
  | .raised e _ => e.stage = opcode i

theorem recordsStage_require {i : Instr} {ok : Bool} {e : Raise} {s : State} {rest : Ran} (stage : e.stage = opcode i)
    (h : rest.RecordsStage i) : (require ok e s rest).RecordsStage i := by
  cases ok with
  | false => exact stage
  | true => exact h

theorem recordsStage_requireStage {i : Instr} {stage : BitVec 3} {s : State} {rest : Ran} (h : rest.RecordsStage i) :
    (requireStage stage i s rest).RecordsStage i :=
  recordsStage_require rfl h

/-- Every rule but ENCODE's records its own command's opcode: ENCODE's sub-stages record theirs (R202, R224). -/
theorem bodyOf_recordsStage {i : Instr} (other : i ≠ .encode) (s : State) : (bodyOf i s).RecordsStage i := by
  cases i with
  | nop | clrerr | gfbuild | mxinit => trivial
  | gfmul | bssplit => exact recordsStage_require rfl trivial
  | rsgen | bspad => exact recordsStage_require rfl (recordsStage_require rfl trivial)
  | pmul | rsenc => exact recordsStage_require rfl (recordsStage_require rfl (recordsStage_require rfl trivial))
  | pdiv =>
    exact recordsStage_require rfl (recordsStage_require rfl (recordsStage_require rfl (recordsStage_require rfl trivial)))
  | bsenc =>
    cases h : firstUnrepresentable (payOperand s) with
    | none => rw [bodyOf, bodyBsenc_done h]; trivial
    | some k => rw [bodyOf, bodyBsenc_raised h]; rfl
  | mxfind | mxtime | mxfrsv | mxmask | mxfmt => exact recordsStage_requireStage trivial
  | mxplace => exact recordsStage_requireStage (recordsStage_require rfl trivial)
  | encode => exact absurd rfl other

/-! ### A failing command (R224) -/

/-- A rule that completes raises no error. -/
theorem Effect.err {s t : State} {i : Instr} (h : Effect s i t) (accepted : s.err = false) : t.err = false := by
  cases h with
  | clrerr => rfl
  | _ => exact accepted

/-- A failing command other than ENCODE ran a rule that raised in the state it started in, and enters that error. -/
theorem exec_failed {i : Instr} {s t : State} (other : i ≠ .encode) (accepted : s.err = false) (run : exec i s = .next t)
    (failed : t.err = true) :
    ∃ e : Raise, e.stage = opcode i ∧ e.cause ≠ .none ∧ t = (s.setDone false).enterError e := by
  rw [exec_accepted i accepted] at run
  cases run
  have stage := bodyOf_recordsStage other (s.setDone false)
  obtain ⟨u, rule, effect⟩ | ⟨e, u, rule, cause, left⟩ := bodyOf_endsPrecisely i (s.setDone false)
  · rw [rule] at failed
    exact absurd ((effect.err accepted).symm.trans failed) nofun
  · obtain rfl : u = s.setDone false := left.resolve_right fun encode => other encode.1
    rw [rule] at stage ⊢
    exact ⟨e, stage, cause, rfl⟩

end Sys2Proof.Machine

namespace Sys2Proof.Proofs

open Sys2Proof.Machine

/-- Settles O8: the rule raised in the state it started in, so only what entering the error writes differs. -/
theorem failingCommandChangesErrorFieldsOnly : Obligations.FailingCommandChangesErrorFieldsOnly := by
  unfold Obligations.FailingCommandChangesErrorFieldsOnly
  intro i s t other accepted run failed
  obtain ⟨e, stage, cause, rfl⟩ := exec_failed other accepted run failed
  exact ⟨stage ▸ rfl, cause⟩

/-- Settles O5: a rejected word enters ILLEGAL, whose stage is the word's opcode, its top byte. -/
theorem illegalWordRaisesIllegal : Obligations.IllegalWordRaisesIllegal := by
  unfold Obligations.IllegalWordRaisesIllegal
  rintro s w accepted ⟨e, rejected⟩
  rw [execWord_rejected rejected]
  exact execIllegal_raises w accepted

/-- Settles O15: STATUS and CTRL read DONE, ERR, DIE and EIE at those bits, and reset clears all four. -/
theorem irqIsTheEnabledPendingBits : Obligations.IrqIsTheEnabledPendingBits := by
  unfold Obligations.IrqIsTheEnabledPendingBits
  refine ⟨fun s => ?_, rfl⟩
  have status : memRead s 0x0005 = statusWord s := rfl
  have ctrl : memRead s 0x0004 = ctrlWord s := rfl
  obtain ⟨-, done, err, -⟩ := statusWord_fields s
  obtain ⟨die, eie, -⟩ := ctrlWord_fields s
  rw [status, ctrl, done, err, die, eie]
  rfl

end Sys2Proof.Proofs
end

section
/-! PROOFS. Reset: every register at its reset value whatever the state was, and the invariant in the state a reset leaves (R250 to
R252). -/

namespace Sys2Proof.Machine

/-! ### The registers after a reset (R250, R251) -/

/-- Every address up to that of PRLEN reads a register (R21, R62). -/
theorem memRead_of_le (s : State) {a : Word} (h : a.toNat ≤ 0x0014) :
    memRead s a = readReg s (regsInOrder.getD a.toNat .id) := by
  have register : locate a = .reg (regsInOrder.getD a.toNat .id) := if_pos h
  rw [memRead, register, readLocation]

/-- What a register reads after a reset (R251): the four constants, FMT's default, and 0 for every other. -/
def Reg.resetWord : Reg → Word
  | .id => Config.idValue
  | .rev => Config.revValue
  | .cfg0 => Config.cfg0Value
  | .cfg1 => Config.cfg1Value
  | .fmt => Config.fmtReset
  | _ => 0

theorem readReg_afterReset (epoch : Nat) (r : Reg) : readReg (State.afterReset epoch) r = r.resetWord := by
  cases r <;> rfl

/-- No register reads anything of the state before the reset. -/
theorem readReg_resetMachine (s : State) (r : Reg) : readReg (resetMachine s) r = r.resetWord := by
  cases r <;> rfl

/-- The registers from CTRL on are 0 after a reset, but for FMT (R251). -/
theorem resetWord_getD_eq_zero :
    ∀ n, n ≤ 0x0014 → 0x0004 ≤ n → n ≠ 0x0009 → (regsInOrder.getD n .id).resetWord = 0 := by decide

end Sys2Proof.Machine

namespace Sys2Proof.Proofs

open Sys2Proof.Machine

/-- Settles O56: after a reset ERR, GFV and GENLEN are 0, BSST is empty and MXS is 0, so the invariant asks nothing of the files. -/
theorem invariantHoldsAfterReset : Obligations.InvariantHoldsAfterReset :=
  afterReset_inv

/-- Settles O16: the step is the reset of the state without its first transaction, and each register reads the same after any
reset. -/
theorem resetGivesTheResetValues : Obligations.ResetGivesTheResetValues := by
  unfold Obligations.ResetGivesTheResetValues
  refine ⟨fun s rest script => ?step, ⟨rfl, rfl, rfl, rfl, rfl⟩, fun a ⟨low, high, notFmt⟩ => ?zero⟩
  case step =>
    refine ⟨resetMachine (s.setScript rest), (step_cons script).trans (perform_reset _), rfl, rfl, rfl, fun a high => ?_⟩
    rw [memRead_of_le _ high, memRead_of_le _ high, readReg_resetMachine, State.reset, readReg_afterReset]
  case zero =>
    rw [memRead_of_le _ high, State.reset, readReg_afterReset, resetWord_getD_eq_zero _ high low notFmt]

end Sys2Proof.Proofs
end
